-- ==== Sys2Proof/Word.lean ====
section
/-! DEFINITION. The two word types of the block: every register is 8 bits wide (16 bits for a pair, SP and PC)
and an address is 16 bits (R7, R20, R63). -/

namespace Sys2Proof

/-- A byte: the contents of an 8-bit register or of one memory cell (R8). -/
abbrev Byte := BitVec 8

/-- A 16-bit value: a register pair, SP, PC or an address (R8, R20, R63). -/
abbrev Word := BitVec 16

end Sys2Proof
end

