-- ==== Sys2Proof/Config.lean ====
section
/-! DEFINITION. What an implementation of the block fixes (the parameters of R7) and the free values the spec leaves open.
The parameters are held in State as plain data, fixed at load, so that a claim over every state is a claim over every value
of them; a value the spec gives no default (ECHO_MODE) has no body here. -/

namespace Sys2Proof

/-- `ECHO_MODE` (R7, R77; D5, C4): what 0xE000-0xFDFF does. -/
inductive EchoMode where
  | stub
  | mirror
deriving DecidableEq, Repr, Inhabited

/-- `ACC_ROT_Z` (R7, R223; D6, C2): the Z flag of RLCA, RLA, RRCA and RRA. -/
inductive AccRotZ where
  | fromResult
  | clear
deriving DecidableEq, Repr

/-- The parameters of R7 that a cartridge does not decide. `cycMain` and `cycCb` are the two 256-entry tables of base
costs, indexed by opcode byte (R470 to R473). HALT_QUANTUM is no parameter: the spec fixes it at 4. -/
structure Params where
  echoMode          : EchoMode
  accRotZ           : AccRotZ
  divPeriod         : Nat
  cycMain           : List Nat
  cycCb             : List Nat
  illegalCycles     : Nat
  intDispatchCycles : Nat
  stopQuantum       : Nat
deriving DecidableEq, Repr

/-- The values a legal parameter set has: the DIV period is positive and each cycle table has its 256 entries (R7, R470). -/
def Params.wf (p : Params) : Bool :=
  decide (0 < p.divPeriod) && decide (p.cycMain.length = 256) && decide (p.cycCb.length = 256)

namespace Config

/-- The FREE VALUE of a draw (R83, R89): any byte, chosen afresh at each read. It has no body: the step applies it to a counter
in State that it advances at every such read, and nothing can be proved about the byte. Log entry 1. -/
opaque freeByte : Nat → Byte

/-- The value of the OPEN parameter ECHO_MODE in the state after reset (R7, R77; D5). It has no body: the spec declines to choose.
Log entry 2. -/
opaque echoMode : EchoMode

end Config

end Sys2Proof
end

