-- ==== Sys2Proof/Machine/Bits.lean ====
section
/-! DEFINITION. The byte-order, bit-field and sign-extension helpers that the decoder and the meanings share (R8, R9, R167). -/

namespace Sys2Proof

/-- `hi:lo`, the 16-bit value of two bytes (R8). -/
def join (hi lo : Byte) : Word := hi ++ lo

/-- `v[15:8]` (R8). -/
def hiByte (v : Word) : Byte := v.extractLsb' 8 8

/-- `v[7:0]` (R8). -/
def loByte (v : Word) : Byte := v.extractLsb' 0 8

/-- `sext_16(v)` (R8): the signed reading of a byte as a 16-bit value; `PC + s8(e)` modulo 2^16 is `PC + sext_16(e)`. -/
def sext16 (v : Byte) : Word := v.signExtend 16

/-- The I/O-page address `0xFF00 + n` of LDH and LD (C) (R167). -/
def ioPage (n : Byte) : Word := 0xFF00#16 + n.zeroExtend 16

/-- The field of `w` bits of an opcode byte that starts at bit `lo` (R162). -/
def field (op : Byte) (lo w : Nat) : BitVec w := op.extractLsb' lo w

end Sys2Proof
end

