-- ==== Sys2Proof/Machine/Components.lean ====
section
/-! DEFINITION. The types of the parts of State: the CPU register file, the engine, the timer, the speed switch, the HDMA engine and
the cartridge controllers, with the small closed types they use (10_state.md). -/

namespace Sys2Proof.Machine

/-- The CPU register file (R20 to R24). The low nibble of F is hard-masked to 0 on every write (R21, R22): every write of F goes
through `Cpu.setF` or `Cpu.setZNHC`. -/
structure Cpu where
  a  : Byte
  f  : Byte
  b  : Byte
  c  : Byte
  d  : Byte
  e  : Byte
  h  : Byte
  l  : Byte
  sp : Word
  pc : Word
deriving DecidableEq, Repr

/-- The engine: run state (R25), interrupt master enable (R26), cycle clock (R27, R415), and the cycle count `cycles` of the current or
last step (R9, R175): the base cost and surcharges while an instruction runs, the total the step reports after it. -/
structure Engine where
  halted      : Bool
  stopped     : Bool
  ime         : Bool
  imeEnabling : Bool
  clockT      : Nat
  clockM      : Nat
  cycles      : Nat
deriving DecidableEq, Repr

/-- "The active frequency" of the selectable timer (R28, R39, R413). -/
inductive Threshold where
  | t1024 | t16 | t64 | t256
deriving DecidableEq, Repr

/-- The timer's state beyond its I/O registers (R28). -/
structure Timer where
  divAcc    : Nat
  timerAcc  : Nat
  threshold : Threshold
deriving DecidableEq, Repr

/-- The speed state of color mode (R29). -/
structure Speed where
  doubleSpeed : Bool
  armed       : Bool
deriving DecidableEq, Repr

/-- The HDMA state of color mode (R34): `len` blocks of 16 bytes still to copy. -/
structure Hdma where
  len    : Nat
  active : Bool
  src    : Word
  dst    : Word
deriving DecidableEq, Repr

/-- The five interrupt sources in ascending order of their bit (R401). -/
inductive IntSource where
  | vblank | lcdStat | timer | serial | joypad
deriving DecidableEq, Repr

/-- The controller variant CART_VARIANT (R57, R111). -/
inductive Variant where
  | plainRom | mbc1 | mbc2 | mbc3 | mbc5
deriving DecidableEq, Repr

/-- The five clock registers of MBC3, index 0 to 4 (R60). -/
inductive RtcReg where
  | seconds | minutes | hours | dayLow | dayHigh
deriving DecidableEq, Repr

/-- A set of clock registers (R60). -/
structure Rtc where
  seconds : Byte
  minutes : Byte
  hours   : Byte
  dayLow  : Byte
  dayHigh : Byte
deriving DecidableEq, Repr

/-- What the MBC3 RAM-bank register `ram_sel` selects: 0x00-0x03 a RAM bank, 0x08-0x0C a clock register (R60). -/
inductive RamSel where
  | ram (bank : BitVec 2)
  | clock (reg : RtcReg)
deriving DecidableEq, Repr

/-- The MBC1 registers (R58); `mode` is the ROM/RAM banking-mode flip-flop: 0 ROM banking, 1 RAM banking. -/
structure Mbc1 where
  ramEnabled : Bool
  bankLo     : BitVec 5
  bankHi     : BitVec 2
  mode       : BitVec 1
deriving DecidableEq, Repr

/-- The MBC2 registers (R59). -/
structure Mbc2 where
  ramEnabled : Bool
  romBank    : BitVec 4
deriving DecidableEq, Repr

/-- The MBC3 registers (R60); `latchArmed`: the last byte written to 0x6000-0x7FFF was 0x00. -/
structure Mbc3 where
  ramEnabled : Bool
  romBank    : BitVec 7
  ramSel     : RamSel
  live       : Rtc
  latched    : Rtc
  latchArmed : Bool
deriving DecidableEq, Repr

/-- The MBC5 registers (R61). -/
structure Mbc5 where
  ramEnabled : Bool
  romBank    : BitVec 9
  ramBank    : BitVec 4
deriving DecidableEq, Repr

/-- The active controller and its registers (R57 to R62); PlainROM holds none. -/
inductive Cart where
  | plainRom
  | mbc1 (r : Mbc1)
  | mbc2 (r : Mbc2)
  | mbc3 (r : Mbc3)
  | mbc5 (r : Mbc5)
deriving DecidableEq, Repr

/-- The ports of the I/O and high-RAM file that are not plain storage (R82 to R107), by name. -/
inductive IoPort where
  | joyp | div | tac | sound | intFlag | stat | ly | dma | key1 | vbk | hdma5 | palette | svbk | plain
deriving DecidableEq, Repr

end Sys2Proof.Machine
end

