-- ==== Sys2Proof/Syntax.lean ====
section
/-! DEFINITION. The syntax: the operand codes of R163 to R166 and the ONE inductive of instructions, one constructor for each of
the 512 rows of spec/opcode_table.json (main table R168, CB table R169), then the families of constructors by operand. -/

namespace Sys2Proof

/-- The seven 8-bit registers of the operand code `r` (R163); code 6 is the byte at HL and names no register. -/
inductive Reg8 where
  | b | c | d | e | h | l | a
deriving DecidableEq, Repr

/-- The 8-bit operand of the code `r` (R163): a register, or the byte at address HL. -/
inductive Operand8 where
  | reg (r : Reg8)
  | atHL
deriving DecidableEq, Repr

/-- The 16-bit pair code `rp` (R164). -/
inductive Pair where
  | bc | de | hl | sp
deriving DecidableEq, Repr

/-- The 16-bit pair code `rp2` of PUSH and POP (R165). -/
inductive StackPair where
  | bc | de | hl | af
deriving DecidableEq, Repr

/-- The condition code `cc` (R166, R220). -/
inductive Cond where
  | nz | z | nc | c
deriving DecidableEq, Repr

/-- The ALU operation code `ooo` (field y of R168). -/
inductive AluOp where
  | add | adc | sub | sbc | and | xor | or | cp
deriving DecidableEq, Repr

/-- The rotate or shift operation code `y` of the CB table (R169). -/
inductive RotOp where
  | rlc | rrc | rl | rr | sla | sra | swap | srl
deriving DecidableEq, Repr

/-- The eleven main-table bytes with no instruction (R170). -/
inductive Illegal where
  | d3 | db | dd | e3 | e4 | eb | ec | ed | f4 | fc | fd
deriving DecidableEq, Repr

/-- The field value of a register operand (R163). -/
def Reg8.code : Reg8 → BitVec 3
  | .b => 0 | .c => 1 | .d => 2 | .e => 3 | .h => 4 | .l => 5 | .a => 7

/-- The field value of a 16-bit pair (R164). -/
def Pair.code : Pair → BitVec 2
  | .bc => 0 | .de => 1 | .hl => 2 | .sp => 3

/-- The field value of a pushed or popped pair (R165). -/
def StackPair.code : StackPair → BitVec 2
  | .bc => 0 | .de => 1 | .hl => 2 | .af => 3

/-- The field value of a condition (R166). -/
def Cond.code : Cond → BitVec 2
  | .nz => 0 | .z => 1 | .nc => 2 | .c => 3

/-- The field value of an ALU operation (R168). -/
def AluOp.code : AluOp → BitVec 3
  | .add => 0 | .adc => 1 | .sub => 2 | .sbc => 3 | .and => 4 | .xor => 5 | .or => 6 | .cp => 7

/-- The field value of a rotate or shift (R169). -/
def RotOp.code : RotOp → BitVec 3
  | .rlc => 0 | .rrc => 1 | .rl => 2 | .rr => 3 | .sla => 4 | .sra => 5 | .swap => 6 | .srl => 7

/-- The instructions, one constructor per row of the opcode table: the rows with an operand
first, then the rest, each in the table's order. An operand is the immediate of the row's
format (R160): `d16` and `a16` are assembled low byte first, `e8` is the raw byte, `ignored` is the byte STOP discards
(R371), `op2` the byte after the 0xCB prefix (R376). -/
inductive Instr where
  | ldBCD16 (d16 : Word)
  | ldBD8 (d8 : Byte)
  | ldAtA16SP (a16 : Word)
  | ldCD8 (d8 : Byte)
  | stop (ignored : Byte)
  | ldDED16 (d16 : Word)
  | ldDD8 (d8 : Byte)
  | jrE8 (e8 : Byte)
  | ldED8 (d8 : Byte)
  | jrNZE8 (e8 : Byte)
  | ldHLD16 (d16 : Word)
  | ldHD8 (d8 : Byte)
  | jrZE8 (e8 : Byte)
  | ldLD8 (d8 : Byte)
  | jrNCE8 (e8 : Byte)
  | ldSPD16 (d16 : Word)
  | ldAtHLD8 (d8 : Byte)
  | jrCE8 (e8 : Byte)
  | ldAD8 (d8 : Byte)
  | jpNZA16 (a16 : Word)
  | jpA16 (a16 : Word)
  | callNZA16 (a16 : Word)
  | addAD8 (d8 : Byte)
  | jpZA16 (a16 : Word)
  | prefixCb (op2 : Byte)
  | callZA16 (a16 : Word)
  | callA16 (a16 : Word)
  | adcAD8 (d8 : Byte)
  | jpNCA16 (a16 : Word)
  | callNCA16 (a16 : Word)
  | subD8 (d8 : Byte)
  | jpCA16 (a16 : Word)
  | callCA16 (a16 : Word)
  | sbcAD8 (d8 : Byte)
  | ldhAtA8A (a8 : Byte)
  | andD8 (d8 : Byte)
  | addSPE8 (e8 : Byte)
  | ldAtA16A (a16 : Word)
  | xorD8 (d8 : Byte)
  | ldhAAtA8 (a8 : Byte)
  | orD8 (d8 : Byte)
  | ldHLSPE8 (e8 : Byte)
  | ldAAtA16 (a16 : Word)
  | cpD8 (d8 : Byte)
  | nop
  | ldAtBCA
  | incBC
  | incB
  | decB
  | rlca
  | addHLBC
  | ldAAtBC
  | decBC
  | incC
  | decC
  | rrca
  | ldAtDEA
  | incDE
  | incD
  | decD
  | rla
  | addHLDE
  | ldAAtDE
  | decDE
  | incE
  | decE
  | rra
  | ldAtHLIncA
  | incHL
  | incH
  | decH
  | daa
  | addHLHL
  | ldAAtHLInc
  | decHL
  | incL
  | decL
  | cpl
  | ldAtHLDecA
  | incSP
  | incAtHL
  | decAtHL
  | scf
  | addHLSP
  | ldAAtHLDec
  | decSP
  | incA
  | decA
  | ccf
  | ldBB
  | ldBC
  | ldBD
  | ldBE
  | ldBH
  | ldBL
  | ldBAtHL
  | ldBA
  | ldCB
  | ldCC
  | ldCD
  | ldCE
  | ldCH
  | ldCL
  | ldCAtHL
  | ldCA
  | ldDB
  | ldDC
  | ldDD
  | ldDE
  | ldDH
  | ldDL
  | ldDAtHL
  | ldDA
  | ldEB
  | ldEC
  | ldED
  | ldEE
  | ldEH
  | ldEL
  | ldEAtHL
  | ldEA
  | ldHB
  | ldHC
  | ldHD
  | ldHE
  | ldHH
  | ldHL
  | ldHAtHL
  | ldHA
  | ldLB
  | ldLC
  | ldLD
  | ldLE
  | ldLH
  | ldLL
  | ldLAtHL
  | ldLA
  | ldAtHLB
  | ldAtHLC
  | ldAtHLD
  | ldAtHLE
  | ldAtHLH
  | ldAtHLL
  | halt
  | ldAtHLA
  | ldAB
  | ldAC
  | ldAD
  | ldAE
  | ldAH
  | ldAL
  | ldAAtHL
  | ldAA
  | addAB
  | addAC
  | addAD
  | addAE
  | addAH
  | addAL
  | addAAtHL
  | addAA
  | adcAB
  | adcAC
  | adcAD
  | adcAE
  | adcAH
  | adcAL
  | adcAAtHL
  | adcAA
  | subB
  | subC
  | subD
  | subE
  | subH
  | subL
  | subAtHL
  | subA
  | sbcAB
  | sbcAC
  | sbcAD
  | sbcAE
  | sbcAH
  | sbcAL
  | sbcAAtHL
  | sbcAA
  | andB
  | andC
  | andD
  | andE
  | andH
  | andL
  | andAtHL
  | andA
  | xorB
  | xorC
  | xorD
  | xorE
  | xorH
  | xorL
  | xorAtHL
  | xorA
  | orB
  | orC
  | orD
  | orE
  | orH
  | orL
  | orAtHL
  | orA
  | cpB
  | cpC
  | cpD
  | cpE
  | cpH
  | cpL
  | cpAtHL
  | cpA
  | retNZ
  | popBC
  | pushBC
  | rst00
  | retZ
  | ret
  | rst08
  | retNC
  | popDE
  | illegalD3
  | pushDE
  | rst10
  | retC
  | reti
  | illegalDB
  | illegalDD
  | rst18
  | popHL
  | ldAtCA
  | illegalE3
  | illegalE4
  | pushHL
  | rst20
  | jpHL
  | illegalEB
  | illegalEC
  | illegalED
  | rst28
  | popAF
  | ldAAtC
  | di
  | illegalF4
  | pushAF
  | rst30
  | ldSPHL
  | ei
  | illegalFC
  | illegalFD
  | rst38
  | rlcB
  | rlcC
  | rlcD
  | rlcE
  | rlcH
  | rlcL
  | rlcAtHL
  | rlcA
  | rrcB
  | rrcC
  | rrcD
  | rrcE
  | rrcH
  | rrcL
  | rrcAtHL
  | rrcA
  | rlB
  | rlC
  | rlD
  | rlE
  | rlH
  | rlL
  | rlAtHL
  | rlA
  | rrB
  | rrC
  | rrD
  | rrE
  | rrH
  | rrL
  | rrAtHL
  | rrA
  | slaB
  | slaC
  | slaD
  | slaE
  | slaH
  | slaL
  | slaAtHL
  | slaA
  | sraB
  | sraC
  | sraD
  | sraE
  | sraH
  | sraL
  | sraAtHL
  | sraA
  | swapB
  | swapC
  | swapD
  | swapE
  | swapH
  | swapL
  | swapAtHL
  | swapA
  | srlB
  | srlC
  | srlD
  | srlE
  | srlH
  | srlL
  | srlAtHL
  | srlA
  | bit0B
  | bit0C
  | bit0D
  | bit0E
  | bit0H
  | bit0L
  | bit0AtHL
  | bit0A
  | bit1B
  | bit1C
  | bit1D
  | bit1E
  | bit1H
  | bit1L
  | bit1AtHL
  | bit1A
  | bit2B
  | bit2C
  | bit2D
  | bit2E
  | bit2H
  | bit2L
  | bit2AtHL
  | bit2A
  | bit3B
  | bit3C
  | bit3D
  | bit3E
  | bit3H
  | bit3L
  | bit3AtHL
  | bit3A
  | bit4B
  | bit4C
  | bit4D
  | bit4E
  | bit4H
  | bit4L
  | bit4AtHL
  | bit4A
  | bit5B
  | bit5C
  | bit5D
  | bit5E
  | bit5H
  | bit5L
  | bit5AtHL
  | bit5A
  | bit6B
  | bit6C
  | bit6D
  | bit6E
  | bit6H
  | bit6L
  | bit6AtHL
  | bit6A
  | bit7B
  | bit7C
  | bit7D
  | bit7E
  | bit7H
  | bit7L
  | bit7AtHL
  | bit7A
  | res0B
  | res0C
  | res0D
  | res0E
  | res0H
  | res0L
  | res0AtHL
  | res0A
  | res1B
  | res1C
  | res1D
  | res1E
  | res1H
  | res1L
  | res1AtHL
  | res1A
  | res2B
  | res2C
  | res2D
  | res2E
  | res2H
  | res2L
  | res2AtHL
  | res2A
  | res3B
  | res3C
  | res3D
  | res3E
  | res3H
  | res3L
  | res3AtHL
  | res3A
  | res4B
  | res4C
  | res4D
  | res4E
  | res4H
  | res4L
  | res4AtHL
  | res4A
  | res5B
  | res5C
  | res5D
  | res5E
  | res5H
  | res5L
  | res5AtHL
  | res5A
  | res6B
  | res6C
  | res6D
  | res6E
  | res6H
  | res6L
  | res6AtHL
  | res6A
  | res7B
  | res7C
  | res7D
  | res7E
  | res7H
  | res7L
  | res7AtHL
  | res7A
  | set0B
  | set0C
  | set0D
  | set0E
  | set0H
  | set0L
  | set0AtHL
  | set0A
  | set1B
  | set1C
  | set1D
  | set1E
  | set1H
  | set1L
  | set1AtHL
  | set1A
  | set2B
  | set2C
  | set2D
  | set2E
  | set2H
  | set2L
  | set2AtHL
  | set2A
  | set3B
  | set3C
  | set3D
  | set3E
  | set3H
  | set3L
  | set3AtHL
  | set3A
  | set4B
  | set4C
  | set4D
  | set4E
  | set4H
  | set4L
  | set4AtHL
  | set4A
  | set5B
  | set5C
  | set5D
  | set5E
  | set5H
  | set5L
  | set5AtHL
  | set5A
  | set6B
  | set6C
  | set6D
  | set6E
  | set6H
  | set6L
  | set6AtHL
  | set6A
  | set7B
  | set7C
  | set7D
  | set7E
  | set7H
  | set7L
  | set7AtHL
  | set7A
deriving DecidableEq, Repr

/-- LD r,r' (R230): `01 yyy zzz`, both registers. -/
def Instr.ldReg : Reg8 → Reg8 → Instr
  | .b, .b => .ldBB | .b, .c => .ldBC | .b, .d => .ldBD | .b, .e => .ldBE | .b, .h => .ldBH | .b, .l => .ldBL | .b, .a => .ldBA
  | .c, .b => .ldCB | .c, .c => .ldCC | .c, .d => .ldCD | .c, .e => .ldCE | .c, .h => .ldCH | .c, .l => .ldCL | .c, .a => .ldCA
  | .d, .b => .ldDB | .d, .c => .ldDC | .d, .d => .ldDD | .d, .e => .ldDE | .d, .h => .ldDH | .d, .l => .ldDL | .d, .a => .ldDA
  | .e, .b => .ldEB | .e, .c => .ldEC | .e, .d => .ldED | .e, .e => .ldEE | .e, .h => .ldEH | .e, .l => .ldEL | .e, .a => .ldEA
  | .h, .b => .ldHB | .h, .c => .ldHC | .h, .d => .ldHD | .h, .e => .ldHE | .h, .h => .ldHH | .h, .l => .ldHL | .h, .a => .ldHA
  | .l, .b => .ldLB | .l, .c => .ldLC | .l, .d => .ldLD | .l, .e => .ldLE | .l, .h => .ldLH | .l, .l => .ldLL | .l, .a => .ldLA
  | .a, .b => .ldAB | .a, .c => .ldAC | .a, .d => .ldAD | .a, .e => .ldAE | .a, .h => .ldAH | .a, .l => .ldAL | .a, .a => .ldAA

/-- LD r,d8 (R231): `00 yyy 110`. -/
def Instr.ldImm (r : Reg8) (v : Byte) : Instr :=
  match r with
  | .b => .ldBD8 v | .c => .ldCD8 v | .d => .ldDD8 v | .e => .ldED8 v | .h => .ldHD8 v | .l => .ldLD8 v | .a => .ldAD8 v

/-- LD r,(HL) (R232): `01 yyy 110`. -/
def Instr.ldFromHL : Reg8 → Instr
  | .b => .ldBAtHL | .c => .ldCAtHL | .d => .ldDAtHL | .e => .ldEAtHL | .h => .ldHAtHL | .l => .ldLAtHL | .a => .ldAAtHL

/-- LD (HL),r (R233): `01 110 zzz`. -/
def Instr.ldToHL : Reg8 → Instr
  | .b => .ldAtHLB | .c => .ldAtHLC | .d => .ldAtHLD | .e => .ldAtHLE | .h => .ldAtHLH | .l => .ldAtHLL | .a => .ldAtHLA

/-- The ALU operation on a register (R280 to R301): `10 ooo zzz`. -/
def Instr.aluReg : AluOp → Reg8 → Instr
  | .add, .b => .addAB | .add, .c => .addAC | .add, .d => .addAD | .add, .e => .addAE | .add, .h => .addAH | .add, .l => .addAL | .add, .a => .addAA
  | .adc, .b => .adcAB | .adc, .c => .adcAC | .adc, .d => .adcAD | .adc, .e => .adcAE | .adc, .h => .adcAH | .adc, .l => .adcAL | .adc, .a => .adcAA
  | .sub, .b => .subB | .sub, .c => .subC | .sub, .d => .subD | .sub, .e => .subE | .sub, .h => .subH | .sub, .l => .subL | .sub, .a => .subA
  | .sbc, .b => .sbcAB | .sbc, .c => .sbcAC | .sbc, .d => .sbcAD | .sbc, .e => .sbcAE | .sbc, .h => .sbcAH | .sbc, .l => .sbcAL | .sbc, .a => .sbcAA
  | .and, .b => .andB | .and, .c => .andC | .and, .d => .andD | .and, .e => .andE | .and, .h => .andH | .and, .l => .andL | .and, .a => .andA
  | .xor, .b => .xorB | .xor, .c => .xorC | .xor, .d => .xorD | .xor, .e => .xorE | .xor, .h => .xorH | .xor, .l => .xorL | .xor, .a => .xorA
  | .or, .b => .orB | .or, .c => .orC | .or, .d => .orD | .or, .e => .orE | .or, .h => .orH | .or, .l => .orL | .or, .a => .orA
  | .cp, .b => .cpB | .cp, .c => .cpC | .cp, .d => .cpD | .cp, .e => .cpE | .cp, .h => .cpH | .cp, .l => .cpL | .cp, .a => .cpA

/-- The ALU operation on the byte at HL (R281 to R302): `10 ooo 110`. -/
def Instr.aluHL : AluOp → Instr
  | .add => .addAAtHL | .adc => .adcAAtHL | .sub => .subAtHL | .sbc => .sbcAAtHL | .and => .andAtHL | .xor => .xorAtHL | .or => .orAtHL | .cp => .cpAtHL

/-- The ALU operation on an immediate (R282 to R303): `11 ooo 110`, d8. -/
def Instr.aluImm (o : AluOp) (v : Byte) : Instr :=
  match o with
  | .add => .addAD8 v | .adc => .adcAD8 v | .sub => .subD8 v | .sbc => .sbcAD8 v | .and => .andD8 v | .xor => .xorD8 v | .or => .orD8 v | .cp => .cpD8 v

/-- INC r (R304): `00 yyy 100`. -/
def Instr.incReg : Reg8 → Instr
  | .b => .incB | .c => .incC | .d => .incD | .e => .incE | .h => .incH | .l => .incL | .a => .incA

/-- DEC r (R306): `00 yyy 101`. -/
def Instr.decReg : Reg8 → Instr
  | .b => .decB | .c => .decC | .d => .decD | .e => .decE | .h => .decH | .l => .decL | .a => .decA

/-- LD rr,d16 (R261): `00 pp 0001`. -/
def Instr.ldPair (p : Pair) (v : Word) : Instr :=
  match p with
  | .bc => .ldBCD16 v | .de => .ldDED16 v | .hl => .ldHLD16 v | .sp => .ldSPD16 v

/-- INC rr (R316): `00 pp 0011`. -/
def Instr.incPair : Pair → Instr
  | .bc => .incBC | .de => .incDE | .hl => .incHL | .sp => .incSP

/-- DEC rr (R317): `00 pp 1011`. -/
def Instr.decPair : Pair → Instr
  | .bc => .decBC | .de => .decDE | .hl => .decHL | .sp => .decSP

/-- ADD HL,rr (R315): `00 pp 1001`. -/
def Instr.addHL : Pair → Instr
  | .bc => .addHLBC | .de => .addHLDE | .hl => .addHLHL | .sp => .addHLSP

/-- PUSH rr (R265): `11 pp 0101`. -/
def Instr.push : StackPair → Instr
  | .bc => .pushBC | .de => .pushDE | .hl => .pushHL | .af => .pushAF

/-- POP rr (R266) and POP AF (R267): `11 pp 0001`. -/
def Instr.pop : StackPair → Instr
  | .bc => .popBC | .de => .popDE | .hl => .popHL | .af => .popAF

/-- JP cc,a16 (R351): `110 cc 010`. -/
def Instr.jpCond (k : Cond) (a : Word) : Instr :=
  match k with
  | .nz => .jpNZA16 a | .z => .jpZA16 a | .nc => .jpNCA16 a | .c => .jpCA16 a

/-- JR cc,e8 (R354): `001 cc 000`. -/
def Instr.jrCond (k : Cond) (e : Byte) : Instr :=
  match k with
  | .nz => .jrNZE8 e | .z => .jrZE8 e | .nc => .jrNCE8 e | .c => .jrCE8 e

/-- CALL cc,a16 (R356): `110 cc 100`. -/
def Instr.callCond (k : Cond) (a : Word) : Instr :=
  match k with
  | .nz => .callNZA16 a | .z => .callZA16 a | .nc => .callNCA16 a | .c => .callCA16 a

/-- RET cc (R358): `110 cc 000`. -/
def Instr.retCond : Cond → Instr
  | .nz => .retNZ | .z => .retZ | .nc => .retNC | .c => .retC

/-- RST t (R360): `11 ttt 111`, target `t * 8`. -/
def Instr.rst : Fin 8 → Instr
  | 0 => .rst00 | 1 => .rst08 | 2 => .rst10 | 3 => .rst18 | 4 => .rst20 | 5 => .rst28 | 6 => .rst30 | 7 => .rst38

/-- An unrecognized opcode (R375). -/
def Instr.illegal : Illegal → Instr
  | .d3 => .illegalD3 | .db => .illegalDB | .dd => .illegalDD | .e3 => .illegalE3 | .e4 => .illegalE4 | .eb => .illegalEB
  | .ec => .illegalEC | .ed => .illegalED | .f4 => .illegalF4 | .fc => .illegalFC | .fd => .illegalFD

/-- A CB rotate or shift of a register (R324 to R338): 0xCB, `00 ooo zzz`. -/
def Instr.rotReg : RotOp → Reg8 → Instr
  | .rlc, .b => .rlcB | .rlc, .c => .rlcC | .rlc, .d => .rlcD | .rlc, .e => .rlcE | .rlc, .h => .rlcH | .rlc, .l => .rlcL | .rlc, .a => .rlcA
  | .rrc, .b => .rrcB | .rrc, .c => .rrcC | .rrc, .d => .rrcD | .rrc, .e => .rrcE | .rrc, .h => .rrcH | .rrc, .l => .rrcL | .rrc, .a => .rrcA
  | .rl, .b => .rlB | .rl, .c => .rlC | .rl, .d => .rlD | .rl, .e => .rlE | .rl, .h => .rlH | .rl, .l => .rlL | .rl, .a => .rlA
  | .rr, .b => .rrB | .rr, .c => .rrC | .rr, .d => .rrD | .rr, .e => .rrE | .rr, .h => .rrH | .rr, .l => .rrL | .rr, .a => .rrA
  | .sla, .b => .slaB | .sla, .c => .slaC | .sla, .d => .slaD | .sla, .e => .slaE | .sla, .h => .slaH | .sla, .l => .slaL | .sla, .a => .slaA
  | .sra, .b => .sraB | .sra, .c => .sraC | .sra, .d => .sraD | .sra, .e => .sraE | .sra, .h => .sraH | .sra, .l => .sraL | .sra, .a => .sraA
  | .swap, .b => .swapB | .swap, .c => .swapC | .swap, .d => .swapD | .swap, .e => .swapE | .swap, .h => .swapH | .swap, .l => .swapL | .swap, .a => .swapA
  | .srl, .b => .srlB | .srl, .c => .srlC | .srl, .d => .srlD | .srl, .e => .srlE | .srl, .h => .srlH | .srl, .l => .srlL | .srl, .a => .srlA

/-- A CB rotate or shift of the byte at HL (R325 to R339): 0xCB, `00 ooo 110`. -/
def Instr.rotHL : RotOp → Instr
  | .rlc => .rlcAtHL | .rrc => .rrcAtHL | .rl => .rlAtHL | .rr => .rrAtHL | .sla => .slaAtHL | .sra => .sraAtHL | .swap => .swapAtHL | .srl => .srlAtHL

/-- BIT b,r (R340): 0xCB, `01 bbb zzz`. -/
def Instr.bitReg : Fin 8 → Reg8 → Instr
  | 0, .b => .bit0B | 0, .c => .bit0C | 0, .d => .bit0D | 0, .e => .bit0E | 0, .h => .bit0H | 0, .l => .bit0L | 0, .a => .bit0A
  | 1, .b => .bit1B | 1, .c => .bit1C | 1, .d => .bit1D | 1, .e => .bit1E | 1, .h => .bit1H | 1, .l => .bit1L | 1, .a => .bit1A
  | 2, .b => .bit2B | 2, .c => .bit2C | 2, .d => .bit2D | 2, .e => .bit2E | 2, .h => .bit2H | 2, .l => .bit2L | 2, .a => .bit2A
  | 3, .b => .bit3B | 3, .c => .bit3C | 3, .d => .bit3D | 3, .e => .bit3E | 3, .h => .bit3H | 3, .l => .bit3L | 3, .a => .bit3A
  | 4, .b => .bit4B | 4, .c => .bit4C | 4, .d => .bit4D | 4, .e => .bit4E | 4, .h => .bit4H | 4, .l => .bit4L | 4, .a => .bit4A
  | 5, .b => .bit5B | 5, .c => .bit5C | 5, .d => .bit5D | 5, .e => .bit5E | 5, .h => .bit5H | 5, .l => .bit5L | 5, .a => .bit5A
  | 6, .b => .bit6B | 6, .c => .bit6C | 6, .d => .bit6D | 6, .e => .bit6E | 6, .h => .bit6H | 6, .l => .bit6L | 6, .a => .bit6A
  | 7, .b => .bit7B | 7, .c => .bit7C | 7, .d => .bit7D | 7, .e => .bit7E | 7, .h => .bit7H | 7, .l => .bit7L | 7, .a => .bit7A

/-- BIT b,(HL) (R341): 0xCB, `01 bbb 110`. -/
def Instr.bitHL : Fin 8 → Instr
  | 0 => .bit0AtHL | 1 => .bit1AtHL | 2 => .bit2AtHL | 3 => .bit3AtHL | 4 => .bit4AtHL | 5 => .bit5AtHL | 6 => .bit6AtHL | 7 => .bit7AtHL

/-- RES b,r (R342): 0xCB, `10 bbb zzz`. -/
def Instr.resReg : Fin 8 → Reg8 → Instr
  | 0, .b => .res0B | 0, .c => .res0C | 0, .d => .res0D | 0, .e => .res0E | 0, .h => .res0H | 0, .l => .res0L | 0, .a => .res0A
  | 1, .b => .res1B | 1, .c => .res1C | 1, .d => .res1D | 1, .e => .res1E | 1, .h => .res1H | 1, .l => .res1L | 1, .a => .res1A
  | 2, .b => .res2B | 2, .c => .res2C | 2, .d => .res2D | 2, .e => .res2E | 2, .h => .res2H | 2, .l => .res2L | 2, .a => .res2A
  | 3, .b => .res3B | 3, .c => .res3C | 3, .d => .res3D | 3, .e => .res3E | 3, .h => .res3H | 3, .l => .res3L | 3, .a => .res3A
  | 4, .b => .res4B | 4, .c => .res4C | 4, .d => .res4D | 4, .e => .res4E | 4, .h => .res4H | 4, .l => .res4L | 4, .a => .res4A
  | 5, .b => .res5B | 5, .c => .res5C | 5, .d => .res5D | 5, .e => .res5E | 5, .h => .res5H | 5, .l => .res5L | 5, .a => .res5A
  | 6, .b => .res6B | 6, .c => .res6C | 6, .d => .res6D | 6, .e => .res6E | 6, .h => .res6H | 6, .l => .res6L | 6, .a => .res6A
  | 7, .b => .res7B | 7, .c => .res7C | 7, .d => .res7D | 7, .e => .res7E | 7, .h => .res7H | 7, .l => .res7L | 7, .a => .res7A

/-- RES b,(HL) (R343): 0xCB, `10 bbb 110`. -/
def Instr.resHL : Fin 8 → Instr
  | 0 => .res0AtHL | 1 => .res1AtHL | 2 => .res2AtHL | 3 => .res3AtHL | 4 => .res4AtHL | 5 => .res5AtHL | 6 => .res6AtHL | 7 => .res7AtHL

/-- SET b,r (R344): 0xCB, `11 bbb zzz`. -/
def Instr.setReg : Fin 8 → Reg8 → Instr
  | 0, .b => .set0B | 0, .c => .set0C | 0, .d => .set0D | 0, .e => .set0E | 0, .h => .set0H | 0, .l => .set0L | 0, .a => .set0A
  | 1, .b => .set1B | 1, .c => .set1C | 1, .d => .set1D | 1, .e => .set1E | 1, .h => .set1H | 1, .l => .set1L | 1, .a => .set1A
  | 2, .b => .set2B | 2, .c => .set2C | 2, .d => .set2D | 2, .e => .set2E | 2, .h => .set2H | 2, .l => .set2L | 2, .a => .set2A
  | 3, .b => .set3B | 3, .c => .set3C | 3, .d => .set3D | 3, .e => .set3E | 3, .h => .set3H | 3, .l => .set3L | 3, .a => .set3A
  | 4, .b => .set4B | 4, .c => .set4C | 4, .d => .set4D | 4, .e => .set4E | 4, .h => .set4H | 4, .l => .set4L | 4, .a => .set4A
  | 5, .b => .set5B | 5, .c => .set5C | 5, .d => .set5D | 5, .e => .set5E | 5, .h => .set5H | 5, .l => .set5L | 5, .a => .set5A
  | 6, .b => .set6B | 6, .c => .set6C | 6, .d => .set6D | 6, .e => .set6E | 6, .h => .set6H | 6, .l => .set6L | 6, .a => .set6A
  | 7, .b => .set7B | 7, .c => .set7C | 7, .d => .set7D | 7, .e => .set7E | 7, .h => .set7H | 7, .l => .set7L | 7, .a => .set7A

/-- SET b,(HL) (R345): 0xCB, `11 bbb 110`. -/
def Instr.setHL : Fin 8 → Instr
  | 0 => .set0AtHL | 1 => .set1AtHL | 2 => .set2AtHL | 3 => .set3AtHL | 4 => .set4AtHL | 5 => .set5AtHL | 6 => .set6AtHL | 7 => .set7AtHL

end Sys2Proof
end

