-- ==== Sys2Proof/WellFormed.lean ====
section
/-! DEFINITION. Which instructions are well formed: every operand type of Syntax.lean holds exactly the values its field admits, so
the one check left is that the 0xCB prefix is no instruction on its own (R171). -/

namespace Sys2Proof

/-- An instruction is well formed unless it is the bare prefix row PREFIX_CB: "Byte 0xCB is not an instruction on its own" (R171),
the words of that row are those of the CB-table instruction its second byte selects, and that is what they decode to. No field of
any instruction has a reserved value (R170). -/
def Instr.wellFormed : Instr → Bool
  | .prefixCb _ => false
  | _ => true

end Sys2Proof
end

