-- ==== Sys2Proof/Decode.lean ====
section
/-! DEFINITION. The decoder, total on any bytes (R160 to R172), written as the two grids of R168 and R169; after it the encoder,
from the same encodings; and the two tables of codes the grids are made of. -/

namespace Sys2Proof

/-- Why the decoder answers no instruction. Only one reason exists: decoding is total (R172), so every whole word is an
instruction; the bytes given may end before the instruction does. -/
inductive DecodeError where
  /-- The bytes end inside an instruction (no word of the ISA is refused, R172). -/
  | truncated
deriving DecidableEq, Repr

/-- What a main-table byte asks the decoder to read after it (the formats of R160). -/
inductive Entry where
  /-- format `op`: the byte alone. -/
  | op (i : Instr)
  /-- formats `op_d8`, `op_a8`, `op_e8`: one operand byte. -/
  | imm8 (i : Byte → Instr)
  /-- formats `op_d16`, `op_a16`: two operand bytes, the low byte first. -/
  | imm16 (i : Word → Instr)
  /-- format `cb`: the escape into the second table (R171). -/
  | cb

/-- Row 0x of the main table (R168). -/
def mainRow0 : List Entry :=
  [.op .nop, .imm16 .ldBCD16, .op .ldAtBCA, .op .incBC, .op .incB, .op .decB, .imm8 .ldBD8, .op .rlca,
   .imm16 .ldAtA16SP, .op .addHLBC, .op .ldAAtBC, .op .decBC, .op .incC, .op .decC, .imm8 .ldCD8, .op .rrca]

/-- Row 1x of the main table (R168). -/
def mainRow1 : List Entry :=
  [.imm8 .stop, .imm16 .ldDED16, .op .ldAtDEA, .op .incDE, .op .incD, .op .decD, .imm8 .ldDD8, .op .rla,
   .imm8 .jrE8, .op .addHLDE, .op .ldAAtDE, .op .decDE, .op .incE, .op .decE, .imm8 .ldED8, .op .rra]

/-- Row 2x of the main table (R168). -/
def mainRow2 : List Entry :=
  [.imm8 .jrNZE8, .imm16 .ldHLD16, .op .ldAtHLIncA, .op .incHL, .op .incH, .op .decH, .imm8 .ldHD8, .op .daa,
   .imm8 .jrZE8, .op .addHLHL, .op .ldAAtHLInc, .op .decHL, .op .incL, .op .decL, .imm8 .ldLD8, .op .cpl]

/-- Row 3x of the main table (R168). -/
def mainRow3 : List Entry :=
  [.imm8 .jrNCE8, .imm16 .ldSPD16, .op .ldAtHLDecA, .op .incSP, .op .incAtHL, .op .decAtHL, .imm8 .ldAtHLD8, .op .scf,
   .imm8 .jrCE8, .op .addHLSP, .op .ldAAtHLDec, .op .decSP, .op .incA, .op .decA, .imm8 .ldAD8, .op .ccf]

/-- Row 4x of the main table (R168). -/
def mainRow4 : List Entry :=
  [.op .ldBB, .op .ldBC, .op .ldBD, .op .ldBE, .op .ldBH, .op .ldBL, .op .ldBAtHL, .op .ldBA,
   .op .ldCB, .op .ldCC, .op .ldCD, .op .ldCE, .op .ldCH, .op .ldCL, .op .ldCAtHL, .op .ldCA]

/-- Row 5x of the main table (R168). -/
def mainRow5 : List Entry :=
  [.op .ldDB, .op .ldDC, .op .ldDD, .op .ldDE, .op .ldDH, .op .ldDL, .op .ldDAtHL, .op .ldDA,
   .op .ldEB, .op .ldEC, .op .ldED, .op .ldEE, .op .ldEH, .op .ldEL, .op .ldEAtHL, .op .ldEA]

/-- Row 6x of the main table (R168). -/
def mainRow6 : List Entry :=
  [.op .ldHB, .op .ldHC, .op .ldHD, .op .ldHE, .op .ldHH, .op .ldHL, .op .ldHAtHL, .op .ldHA,
   .op .ldLB, .op .ldLC, .op .ldLD, .op .ldLE, .op .ldLH, .op .ldLL, .op .ldLAtHL, .op .ldLA]

/-- Row 7x of the main table (R168). -/
def mainRow7 : List Entry :=
  [.op .ldAtHLB, .op .ldAtHLC, .op .ldAtHLD, .op .ldAtHLE, .op .ldAtHLH, .op .ldAtHLL, .op .halt, .op .ldAtHLA,
   .op .ldAB, .op .ldAC, .op .ldAD, .op .ldAE, .op .ldAH, .op .ldAL, .op .ldAAtHL, .op .ldAA]

/-- Row 8x of the main table (R168). -/
def mainRow8 : List Entry :=
  [.op .addAB, .op .addAC, .op .addAD, .op .addAE, .op .addAH, .op .addAL, .op .addAAtHL, .op .addAA,
   .op .adcAB, .op .adcAC, .op .adcAD, .op .adcAE, .op .adcAH, .op .adcAL, .op .adcAAtHL, .op .adcAA]

/-- Row 9x of the main table (R168). -/
def mainRow9 : List Entry :=
  [.op .subB, .op .subC, .op .subD, .op .subE, .op .subH, .op .subL, .op .subAtHL, .op .subA,
   .op .sbcAB, .op .sbcAC, .op .sbcAD, .op .sbcAE, .op .sbcAH, .op .sbcAL, .op .sbcAAtHL, .op .sbcAA]

/-- Row Ax of the main table (R168). -/
def mainRowA : List Entry :=
  [.op .andB, .op .andC, .op .andD, .op .andE, .op .andH, .op .andL, .op .andAtHL, .op .andA,
   .op .xorB, .op .xorC, .op .xorD, .op .xorE, .op .xorH, .op .xorL, .op .xorAtHL, .op .xorA]

/-- Row Bx of the main table (R168). -/
def mainRowB : List Entry :=
  [.op .orB, .op .orC, .op .orD, .op .orE, .op .orH, .op .orL, .op .orAtHL, .op .orA,
   .op .cpB, .op .cpC, .op .cpD, .op .cpE, .op .cpH, .op .cpL, .op .cpAtHL, .op .cpA]

/-- Row Cx of the main table (R168). -/
def mainRowC : List Entry :=
  [.op .retNZ, .op .popBC, .imm16 .jpNZA16, .imm16 .jpA16, .imm16 .callNZA16, .op .pushBC, .imm8 .addAD8, .op .rst00,
   .op .retZ, .op .ret, .imm16 .jpZA16, .cb, .imm16 .callZA16, .imm16 .callA16, .imm8 .adcAD8, .op .rst08]

/-- Row Dx of the main table (R168). -/
def mainRowD : List Entry :=
  [.op .retNC, .op .popDE, .imm16 .jpNCA16, .op .illegalD3, .imm16 .callNCA16, .op .pushDE, .imm8 .subD8, .op .rst10,
   .op .retC, .op .reti, .imm16 .jpCA16, .op .illegalDB, .imm16 .callCA16, .op .illegalDD, .imm8 .sbcAD8, .op .rst18]

/-- Row Ex of the main table (R168). -/
def mainRowE : List Entry :=
  [.imm8 .ldhAtA8A, .op .popHL, .op .ldAtCA, .op .illegalE3, .op .illegalE4, .op .pushHL, .imm8 .andD8, .op .rst20,
   .imm8 .addSPE8, .op .jpHL, .imm16 .ldAtA16A, .op .illegalEB, .op .illegalEC, .op .illegalED, .imm8 .xorD8, .op .rst28]

/-- Row Fx of the main table (R168). -/
def mainRowF : List Entry :=
  [.imm8 .ldhAAtA8, .op .popAF, .op .ldAAtC, .op .di, .op .illegalF4, .op .pushAF, .imm8 .orD8, .op .rst30,
   .imm8 .ldHLSPE8, .op .ldSPHL, .imm16 .ldAAtA16, .op .ei, .op .illegalFC, .op .illegalFD, .imm8 .cpD8, .op .rst38]

/-- The main table (R168): one entry for each of the 256 first bytes, in order. -/
def mainTable : List Entry :=
  mainRow0 ++ mainRow1 ++ mainRow2 ++ mainRow3 ++ mainRow4 ++ mainRow5 ++ mainRow6 ++ mainRow7 ++
  mainRow8 ++ mainRow9 ++ mainRowA ++ mainRowB ++ mainRowC ++ mainRowD ++ mainRowE ++ mainRowF

/-- Row 0x of the CB table (R169). -/
def cbRow0 : List Instr :=
  [.rlcB, .rlcC, .rlcD, .rlcE, .rlcH, .rlcL, .rlcAtHL, .rlcA,
   .rrcB, .rrcC, .rrcD, .rrcE, .rrcH, .rrcL, .rrcAtHL, .rrcA]

/-- Row 1x of the CB table (R169). -/
def cbRow1 : List Instr :=
  [.rlB, .rlC, .rlD, .rlE, .rlH, .rlL, .rlAtHL, .rlA,
   .rrB, .rrC, .rrD, .rrE, .rrH, .rrL, .rrAtHL, .rrA]

/-- Row 2x of the CB table (R169). -/
def cbRow2 : List Instr :=
  [.slaB, .slaC, .slaD, .slaE, .slaH, .slaL, .slaAtHL, .slaA,
   .sraB, .sraC, .sraD, .sraE, .sraH, .sraL, .sraAtHL, .sraA]

/-- Row 3x of the CB table (R169). -/
def cbRow3 : List Instr :=
  [.swapB, .swapC, .swapD, .swapE, .swapH, .swapL, .swapAtHL, .swapA,
   .srlB, .srlC, .srlD, .srlE, .srlH, .srlL, .srlAtHL, .srlA]

/-- Row 4x of the CB table (R169). -/
def cbRow4 : List Instr :=
  [.bit0B, .bit0C, .bit0D, .bit0E, .bit0H, .bit0L, .bit0AtHL, .bit0A,
   .bit1B, .bit1C, .bit1D, .bit1E, .bit1H, .bit1L, .bit1AtHL, .bit1A]

/-- Row 5x of the CB table (R169). -/
def cbRow5 : List Instr :=
  [.bit2B, .bit2C, .bit2D, .bit2E, .bit2H, .bit2L, .bit2AtHL, .bit2A,
   .bit3B, .bit3C, .bit3D, .bit3E, .bit3H, .bit3L, .bit3AtHL, .bit3A]

/-- Row 6x of the CB table (R169). -/
def cbRow6 : List Instr :=
  [.bit4B, .bit4C, .bit4D, .bit4E, .bit4H, .bit4L, .bit4AtHL, .bit4A,
   .bit5B, .bit5C, .bit5D, .bit5E, .bit5H, .bit5L, .bit5AtHL, .bit5A]

/-- Row 7x of the CB table (R169). -/
def cbRow7 : List Instr :=
  [.bit6B, .bit6C, .bit6D, .bit6E, .bit6H, .bit6L, .bit6AtHL, .bit6A,
   .bit7B, .bit7C, .bit7D, .bit7E, .bit7H, .bit7L, .bit7AtHL, .bit7A]

/-- Row 8x of the CB table (R169). -/
def cbRow8 : List Instr :=
  [.res0B, .res0C, .res0D, .res0E, .res0H, .res0L, .res0AtHL, .res0A,
   .res1B, .res1C, .res1D, .res1E, .res1H, .res1L, .res1AtHL, .res1A]

/-- Row 9x of the CB table (R169). -/
def cbRow9 : List Instr :=
  [.res2B, .res2C, .res2D, .res2E, .res2H, .res2L, .res2AtHL, .res2A,
   .res3B, .res3C, .res3D, .res3E, .res3H, .res3L, .res3AtHL, .res3A]

/-- Row Ax of the CB table (R169). -/
def cbRowA : List Instr :=
  [.res4B, .res4C, .res4D, .res4E, .res4H, .res4L, .res4AtHL, .res4A,
   .res5B, .res5C, .res5D, .res5E, .res5H, .res5L, .res5AtHL, .res5A]

/-- Row Bx of the CB table (R169). -/
def cbRowB : List Instr :=
  [.res6B, .res6C, .res6D, .res6E, .res6H, .res6L, .res6AtHL, .res6A,
   .res7B, .res7C, .res7D, .res7E, .res7H, .res7L, .res7AtHL, .res7A]

/-- Row Cx of the CB table (R169). -/
def cbRowC : List Instr :=
  [.set0B, .set0C, .set0D, .set0E, .set0H, .set0L, .set0AtHL, .set0A,
   .set1B, .set1C, .set1D, .set1E, .set1H, .set1L, .set1AtHL, .set1A]

/-- Row Dx of the CB table (R169). -/
def cbRowD : List Instr :=
  [.set2B, .set2C, .set2D, .set2E, .set2H, .set2L, .set2AtHL, .set2A,
   .set3B, .set3C, .set3D, .set3E, .set3H, .set3L, .set3AtHL, .set3A]

/-- Row Ex of the CB table (R169). -/
def cbRowE : List Instr :=
  [.set4B, .set4C, .set4D, .set4E, .set4H, .set4L, .set4AtHL, .set4A,
   .set5B, .set5C, .set5D, .set5E, .set5H, .set5L, .set5AtHL, .set5A]

/-- Row Fx of the CB table (R169). -/
def cbRowF : List Instr :=
  [.set6B, .set6C, .set6D, .set6E, .set6H, .set6L, .set6AtHL, .set6A,
   .set7B, .set7C, .set7D, .set7E, .set7H, .set7L, .set7AtHL, .set7A]

/-- The CB table (R169): one instruction for each of the 256 bytes after 0xCB, in order. -/
def cbTable : List Instr :=
  cbRow0 ++ cbRow1 ++ cbRow2 ++ cbRow3 ++ cbRow4 ++ cbRow5 ++ cbRow6 ++ cbRow7 ++
  cbRow8 ++ cbRow9 ++ cbRowA ++ cbRowB ++ cbRowC ++ cbRowD ++ cbRowE ++ cbRowF

/-- The main-table entry of a first byte (R168). The table has 256 entries, so the default is never taken. -/
def mainEntry (op : Byte) : Entry := mainTable.getD op.toNat (.op .nop)

/-- The CB-table entry of the byte after the prefix (R169). The table has 256 entries, so the default is never taken. -/
def cbEntry (op2 : Byte) : Instr := cbTable.getD op2.toNat .nop

/-- Decode the first instruction of a byte string: the instruction and the bytes after it, or the one refusal by name (R160,
R171, R172). -/
def decode : List Byte → Except DecodeError (Instr × List Byte)
  | [] => .error .truncated
  | op :: rest =>
    match mainEntry op with
    | .op i => .ok (i, rest)
    | .imm8 f =>
      match rest with
      | v :: rest => .ok (f v, rest)
      | [] => .error .truncated
    | .imm16 f =>
      match rest with
      | lo :: hi :: rest => .ok (f (join hi lo), rest)
      | _ => .error .truncated
    | .cb =>
      match rest with
      | op2 :: rest => .ok (cbEntry op2, rest)
      | [] => .error .truncated

/-- The bytes of an instruction, in fetch order (R160, R168, R169). The prefix row's bytes are those of the CB instruction that
`op2` selects (R376). -/
def encode : Instr → List Byte
  | .nop => [0x00]
  | .ldBCD16 v => [0x01, loByte v, hiByte v]
  | .ldAtBCA => [0x02]
  | .incBC => [0x03]
  | .incB => [0x04]
  | .decB => [0x05]
  | .ldBD8 v => [0x06, v]
  | .rlca => [0x07]
  | .ldAtA16SP v => [0x08, loByte v, hiByte v]
  | .addHLBC => [0x09]
  | .ldAAtBC => [0x0A]
  | .decBC => [0x0B]
  | .incC => [0x0C]
  | .decC => [0x0D]
  | .ldCD8 v => [0x0E, v]
  | .rrca => [0x0F]
  | .stop v => [0x10, v]
  | .ldDED16 v => [0x11, loByte v, hiByte v]
  | .ldAtDEA => [0x12]
  | .incDE => [0x13]
  | .incD => [0x14]
  | .decD => [0x15]
  | .ldDD8 v => [0x16, v]
  | .rla => [0x17]
  | .jrE8 v => [0x18, v]
  | .addHLDE => [0x19]
  | .ldAAtDE => [0x1A]
  | .decDE => [0x1B]
  | .incE => [0x1C]
  | .decE => [0x1D]
  | .ldED8 v => [0x1E, v]
  | .rra => [0x1F]
  | .jrNZE8 v => [0x20, v]
  | .ldHLD16 v => [0x21, loByte v, hiByte v]
  | .ldAtHLIncA => [0x22]
  | .incHL => [0x23]
  | .incH => [0x24]
  | .decH => [0x25]
  | .ldHD8 v => [0x26, v]
  | .daa => [0x27]
  | .jrZE8 v => [0x28, v]
  | .addHLHL => [0x29]
  | .ldAAtHLInc => [0x2A]
  | .decHL => [0x2B]
  | .incL => [0x2C]
  | .decL => [0x2D]
  | .ldLD8 v => [0x2E, v]
  | .cpl => [0x2F]
  | .jrNCE8 v => [0x30, v]
  | .ldSPD16 v => [0x31, loByte v, hiByte v]
  | .ldAtHLDecA => [0x32]
  | .incSP => [0x33]
  | .incAtHL => [0x34]
  | .decAtHL => [0x35]
  | .ldAtHLD8 v => [0x36, v]
  | .scf => [0x37]
  | .jrCE8 v => [0x38, v]
  | .addHLSP => [0x39]
  | .ldAAtHLDec => [0x3A]
  | .decSP => [0x3B]
  | .incA => [0x3C]
  | .decA => [0x3D]
  | .ldAD8 v => [0x3E, v]
  | .ccf => [0x3F]
  | .ldBB => [0x40]
  | .ldBC => [0x41]
  | .ldBD => [0x42]
  | .ldBE => [0x43]
  | .ldBH => [0x44]
  | .ldBL => [0x45]
  | .ldBAtHL => [0x46]
  | .ldBA => [0x47]
  | .ldCB => [0x48]
  | .ldCC => [0x49]
  | .ldCD => [0x4A]
  | .ldCE => [0x4B]
  | .ldCH => [0x4C]
  | .ldCL => [0x4D]
  | .ldCAtHL => [0x4E]
  | .ldCA => [0x4F]
  | .ldDB => [0x50]
  | .ldDC => [0x51]
  | .ldDD => [0x52]
  | .ldDE => [0x53]
  | .ldDH => [0x54]
  | .ldDL => [0x55]
  | .ldDAtHL => [0x56]
  | .ldDA => [0x57]
  | .ldEB => [0x58]
  | .ldEC => [0x59]
  | .ldED => [0x5A]
  | .ldEE => [0x5B]
  | .ldEH => [0x5C]
  | .ldEL => [0x5D]
  | .ldEAtHL => [0x5E]
  | .ldEA => [0x5F]
  | .ldHB => [0x60]
  | .ldHC => [0x61]
  | .ldHD => [0x62]
  | .ldHE => [0x63]
  | .ldHH => [0x64]
  | .ldHL => [0x65]
  | .ldHAtHL => [0x66]
  | .ldHA => [0x67]
  | .ldLB => [0x68]
  | .ldLC => [0x69]
  | .ldLD => [0x6A]
  | .ldLE => [0x6B]
  | .ldLH => [0x6C]
  | .ldLL => [0x6D]
  | .ldLAtHL => [0x6E]
  | .ldLA => [0x6F]
  | .ldAtHLB => [0x70]
  | .ldAtHLC => [0x71]
  | .ldAtHLD => [0x72]
  | .ldAtHLE => [0x73]
  | .ldAtHLH => [0x74]
  | .ldAtHLL => [0x75]
  | .halt => [0x76]
  | .ldAtHLA => [0x77]
  | .ldAB => [0x78]
  | .ldAC => [0x79]
  | .ldAD => [0x7A]
  | .ldAE => [0x7B]
  | .ldAH => [0x7C]
  | .ldAL => [0x7D]
  | .ldAAtHL => [0x7E]
  | .ldAA => [0x7F]
  | .addAB => [0x80]
  | .addAC => [0x81]
  | .addAD => [0x82]
  | .addAE => [0x83]
  | .addAH => [0x84]
  | .addAL => [0x85]
  | .addAAtHL => [0x86]
  | .addAA => [0x87]
  | .adcAB => [0x88]
  | .adcAC => [0x89]
  | .adcAD => [0x8A]
  | .adcAE => [0x8B]
  | .adcAH => [0x8C]
  | .adcAL => [0x8D]
  | .adcAAtHL => [0x8E]
  | .adcAA => [0x8F]
  | .subB => [0x90]
  | .subC => [0x91]
  | .subD => [0x92]
  | .subE => [0x93]
  | .subH => [0x94]
  | .subL => [0x95]
  | .subAtHL => [0x96]
  | .subA => [0x97]
  | .sbcAB => [0x98]
  | .sbcAC => [0x99]
  | .sbcAD => [0x9A]
  | .sbcAE => [0x9B]
  | .sbcAH => [0x9C]
  | .sbcAL => [0x9D]
  | .sbcAAtHL => [0x9E]
  | .sbcAA => [0x9F]
  | .andB => [0xA0]
  | .andC => [0xA1]
  | .andD => [0xA2]
  | .andE => [0xA3]
  | .andH => [0xA4]
  | .andL => [0xA5]
  | .andAtHL => [0xA6]
  | .andA => [0xA7]
  | .xorB => [0xA8]
  | .xorC => [0xA9]
  | .xorD => [0xAA]
  | .xorE => [0xAB]
  | .xorH => [0xAC]
  | .xorL => [0xAD]
  | .xorAtHL => [0xAE]
  | .xorA => [0xAF]
  | .orB => [0xB0]
  | .orC => [0xB1]
  | .orD => [0xB2]
  | .orE => [0xB3]
  | .orH => [0xB4]
  | .orL => [0xB5]
  | .orAtHL => [0xB6]
  | .orA => [0xB7]
  | .cpB => [0xB8]
  | .cpC => [0xB9]
  | .cpD => [0xBA]
  | .cpE => [0xBB]
  | .cpH => [0xBC]
  | .cpL => [0xBD]
  | .cpAtHL => [0xBE]
  | .cpA => [0xBF]
  | .retNZ => [0xC0]
  | .popBC => [0xC1]
  | .jpNZA16 v => [0xC2, loByte v, hiByte v]
  | .jpA16 v => [0xC3, loByte v, hiByte v]
  | .callNZA16 v => [0xC4, loByte v, hiByte v]
  | .pushBC => [0xC5]
  | .addAD8 v => [0xC6, v]
  | .rst00 => [0xC7]
  | .retZ => [0xC8]
  | .ret => [0xC9]
  | .jpZA16 v => [0xCA, loByte v, hiByte v]
  | .prefixCb v => [0xCB, v]
  | .callZA16 v => [0xCC, loByte v, hiByte v]
  | .callA16 v => [0xCD, loByte v, hiByte v]
  | .adcAD8 v => [0xCE, v]
  | .rst08 => [0xCF]
  | .retNC => [0xD0]
  | .popDE => [0xD1]
  | .jpNCA16 v => [0xD2, loByte v, hiByte v]
  | .illegalD3 => [0xD3]
  | .callNCA16 v => [0xD4, loByte v, hiByte v]
  | .pushDE => [0xD5]
  | .subD8 v => [0xD6, v]
  | .rst10 => [0xD7]
  | .retC => [0xD8]
  | .reti => [0xD9]
  | .jpCA16 v => [0xDA, loByte v, hiByte v]
  | .illegalDB => [0xDB]
  | .callCA16 v => [0xDC, loByte v, hiByte v]
  | .illegalDD => [0xDD]
  | .sbcAD8 v => [0xDE, v]
  | .rst18 => [0xDF]
  | .ldhAtA8A v => [0xE0, v]
  | .popHL => [0xE1]
  | .ldAtCA => [0xE2]
  | .illegalE3 => [0xE3]
  | .illegalE4 => [0xE4]
  | .pushHL => [0xE5]
  | .andD8 v => [0xE6, v]
  | .rst20 => [0xE7]
  | .addSPE8 v => [0xE8, v]
  | .jpHL => [0xE9]
  | .ldAtA16A v => [0xEA, loByte v, hiByte v]
  | .illegalEB => [0xEB]
  | .illegalEC => [0xEC]
  | .illegalED => [0xED]
  | .xorD8 v => [0xEE, v]
  | .rst28 => [0xEF]
  | .ldhAAtA8 v => [0xF0, v]
  | .popAF => [0xF1]
  | .ldAAtC => [0xF2]
  | .di => [0xF3]
  | .illegalF4 => [0xF4]
  | .pushAF => [0xF5]
  | .orD8 v => [0xF6, v]
  | .rst30 => [0xF7]
  | .ldHLSPE8 v => [0xF8, v]
  | .ldSPHL => [0xF9]
  | .ldAAtA16 v => [0xFA, loByte v, hiByte v]
  | .ei => [0xFB]
  | .illegalFC => [0xFC]
  | .illegalFD => [0xFD]
  | .cpD8 v => [0xFE, v]
  | .rst38 => [0xFF]
  | .rlcB => [0xCB, 0x00]
  | .rlcC => [0xCB, 0x01]
  | .rlcD => [0xCB, 0x02]
  | .rlcE => [0xCB, 0x03]
  | .rlcH => [0xCB, 0x04]
  | .rlcL => [0xCB, 0x05]
  | .rlcAtHL => [0xCB, 0x06]
  | .rlcA => [0xCB, 0x07]
  | .rrcB => [0xCB, 0x08]
  | .rrcC => [0xCB, 0x09]
  | .rrcD => [0xCB, 0x0A]
  | .rrcE => [0xCB, 0x0B]
  | .rrcH => [0xCB, 0x0C]
  | .rrcL => [0xCB, 0x0D]
  | .rrcAtHL => [0xCB, 0x0E]
  | .rrcA => [0xCB, 0x0F]
  | .rlB => [0xCB, 0x10]
  | .rlC => [0xCB, 0x11]
  | .rlD => [0xCB, 0x12]
  | .rlE => [0xCB, 0x13]
  | .rlH => [0xCB, 0x14]
  | .rlL => [0xCB, 0x15]
  | .rlAtHL => [0xCB, 0x16]
  | .rlA => [0xCB, 0x17]
  | .rrB => [0xCB, 0x18]
  | .rrC => [0xCB, 0x19]
  | .rrD => [0xCB, 0x1A]
  | .rrE => [0xCB, 0x1B]
  | .rrH => [0xCB, 0x1C]
  | .rrL => [0xCB, 0x1D]
  | .rrAtHL => [0xCB, 0x1E]
  | .rrA => [0xCB, 0x1F]
  | .slaB => [0xCB, 0x20]
  | .slaC => [0xCB, 0x21]
  | .slaD => [0xCB, 0x22]
  | .slaE => [0xCB, 0x23]
  | .slaH => [0xCB, 0x24]
  | .slaL => [0xCB, 0x25]
  | .slaAtHL => [0xCB, 0x26]
  | .slaA => [0xCB, 0x27]
  | .sraB => [0xCB, 0x28]
  | .sraC => [0xCB, 0x29]
  | .sraD => [0xCB, 0x2A]
  | .sraE => [0xCB, 0x2B]
  | .sraH => [0xCB, 0x2C]
  | .sraL => [0xCB, 0x2D]
  | .sraAtHL => [0xCB, 0x2E]
  | .sraA => [0xCB, 0x2F]
  | .swapB => [0xCB, 0x30]
  | .swapC => [0xCB, 0x31]
  | .swapD => [0xCB, 0x32]
  | .swapE => [0xCB, 0x33]
  | .swapH => [0xCB, 0x34]
  | .swapL => [0xCB, 0x35]
  | .swapAtHL => [0xCB, 0x36]
  | .swapA => [0xCB, 0x37]
  | .srlB => [0xCB, 0x38]
  | .srlC => [0xCB, 0x39]
  | .srlD => [0xCB, 0x3A]
  | .srlE => [0xCB, 0x3B]
  | .srlH => [0xCB, 0x3C]
  | .srlL => [0xCB, 0x3D]
  | .srlAtHL => [0xCB, 0x3E]
  | .srlA => [0xCB, 0x3F]
  | .bit0B => [0xCB, 0x40]
  | .bit0C => [0xCB, 0x41]
  | .bit0D => [0xCB, 0x42]
  | .bit0E => [0xCB, 0x43]
  | .bit0H => [0xCB, 0x44]
  | .bit0L => [0xCB, 0x45]
  | .bit0AtHL => [0xCB, 0x46]
  | .bit0A => [0xCB, 0x47]
  | .bit1B => [0xCB, 0x48]
  | .bit1C => [0xCB, 0x49]
  | .bit1D => [0xCB, 0x4A]
  | .bit1E => [0xCB, 0x4B]
  | .bit1H => [0xCB, 0x4C]
  | .bit1L => [0xCB, 0x4D]
  | .bit1AtHL => [0xCB, 0x4E]
  | .bit1A => [0xCB, 0x4F]
  | .bit2B => [0xCB, 0x50]
  | .bit2C => [0xCB, 0x51]
  | .bit2D => [0xCB, 0x52]
  | .bit2E => [0xCB, 0x53]
  | .bit2H => [0xCB, 0x54]
  | .bit2L => [0xCB, 0x55]
  | .bit2AtHL => [0xCB, 0x56]
  | .bit2A => [0xCB, 0x57]
  | .bit3B => [0xCB, 0x58]
  | .bit3C => [0xCB, 0x59]
  | .bit3D => [0xCB, 0x5A]
  | .bit3E => [0xCB, 0x5B]
  | .bit3H => [0xCB, 0x5C]
  | .bit3L => [0xCB, 0x5D]
  | .bit3AtHL => [0xCB, 0x5E]
  | .bit3A => [0xCB, 0x5F]
  | .bit4B => [0xCB, 0x60]
  | .bit4C => [0xCB, 0x61]
  | .bit4D => [0xCB, 0x62]
  | .bit4E => [0xCB, 0x63]
  | .bit4H => [0xCB, 0x64]
  | .bit4L => [0xCB, 0x65]
  | .bit4AtHL => [0xCB, 0x66]
  | .bit4A => [0xCB, 0x67]
  | .bit5B => [0xCB, 0x68]
  | .bit5C => [0xCB, 0x69]
  | .bit5D => [0xCB, 0x6A]
  | .bit5E => [0xCB, 0x6B]
  | .bit5H => [0xCB, 0x6C]
  | .bit5L => [0xCB, 0x6D]
  | .bit5AtHL => [0xCB, 0x6E]
  | .bit5A => [0xCB, 0x6F]
  | .bit6B => [0xCB, 0x70]
  | .bit6C => [0xCB, 0x71]
  | .bit6D => [0xCB, 0x72]
  | .bit6E => [0xCB, 0x73]
  | .bit6H => [0xCB, 0x74]
  | .bit6L => [0xCB, 0x75]
  | .bit6AtHL => [0xCB, 0x76]
  | .bit6A => [0xCB, 0x77]
  | .bit7B => [0xCB, 0x78]
  | .bit7C => [0xCB, 0x79]
  | .bit7D => [0xCB, 0x7A]
  | .bit7E => [0xCB, 0x7B]
  | .bit7H => [0xCB, 0x7C]
  | .bit7L => [0xCB, 0x7D]
  | .bit7AtHL => [0xCB, 0x7E]
  | .bit7A => [0xCB, 0x7F]
  | .res0B => [0xCB, 0x80]
  | .res0C => [0xCB, 0x81]
  | .res0D => [0xCB, 0x82]
  | .res0E => [0xCB, 0x83]
  | .res0H => [0xCB, 0x84]
  | .res0L => [0xCB, 0x85]
  | .res0AtHL => [0xCB, 0x86]
  | .res0A => [0xCB, 0x87]
  | .res1B => [0xCB, 0x88]
  | .res1C => [0xCB, 0x89]
  | .res1D => [0xCB, 0x8A]
  | .res1E => [0xCB, 0x8B]
  | .res1H => [0xCB, 0x8C]
  | .res1L => [0xCB, 0x8D]
  | .res1AtHL => [0xCB, 0x8E]
  | .res1A => [0xCB, 0x8F]
  | .res2B => [0xCB, 0x90]
  | .res2C => [0xCB, 0x91]
  | .res2D => [0xCB, 0x92]
  | .res2E => [0xCB, 0x93]
  | .res2H => [0xCB, 0x94]
  | .res2L => [0xCB, 0x95]
  | .res2AtHL => [0xCB, 0x96]
  | .res2A => [0xCB, 0x97]
  | .res3B => [0xCB, 0x98]
  | .res3C => [0xCB, 0x99]
  | .res3D => [0xCB, 0x9A]
  | .res3E => [0xCB, 0x9B]
  | .res3H => [0xCB, 0x9C]
  | .res3L => [0xCB, 0x9D]
  | .res3AtHL => [0xCB, 0x9E]
  | .res3A => [0xCB, 0x9F]
  | .res4B => [0xCB, 0xA0]
  | .res4C => [0xCB, 0xA1]
  | .res4D => [0xCB, 0xA2]
  | .res4E => [0xCB, 0xA3]
  | .res4H => [0xCB, 0xA4]
  | .res4L => [0xCB, 0xA5]
  | .res4AtHL => [0xCB, 0xA6]
  | .res4A => [0xCB, 0xA7]
  | .res5B => [0xCB, 0xA8]
  | .res5C => [0xCB, 0xA9]
  | .res5D => [0xCB, 0xAA]
  | .res5E => [0xCB, 0xAB]
  | .res5H => [0xCB, 0xAC]
  | .res5L => [0xCB, 0xAD]
  | .res5AtHL => [0xCB, 0xAE]
  | .res5A => [0xCB, 0xAF]
  | .res6B => [0xCB, 0xB0]
  | .res6C => [0xCB, 0xB1]
  | .res6D => [0xCB, 0xB2]
  | .res6E => [0xCB, 0xB3]
  | .res6H => [0xCB, 0xB4]
  | .res6L => [0xCB, 0xB5]
  | .res6AtHL => [0xCB, 0xB6]
  | .res6A => [0xCB, 0xB7]
  | .res7B => [0xCB, 0xB8]
  | .res7C => [0xCB, 0xB9]
  | .res7D => [0xCB, 0xBA]
  | .res7E => [0xCB, 0xBB]
  | .res7H => [0xCB, 0xBC]
  | .res7L => [0xCB, 0xBD]
  | .res7AtHL => [0xCB, 0xBE]
  | .res7A => [0xCB, 0xBF]
  | .set0B => [0xCB, 0xC0]
  | .set0C => [0xCB, 0xC1]
  | .set0D => [0xCB, 0xC2]
  | .set0E => [0xCB, 0xC3]
  | .set0H => [0xCB, 0xC4]
  | .set0L => [0xCB, 0xC5]
  | .set0AtHL => [0xCB, 0xC6]
  | .set0A => [0xCB, 0xC7]
  | .set1B => [0xCB, 0xC8]
  | .set1C => [0xCB, 0xC9]
  | .set1D => [0xCB, 0xCA]
  | .set1E => [0xCB, 0xCB]
  | .set1H => [0xCB, 0xCC]
  | .set1L => [0xCB, 0xCD]
  | .set1AtHL => [0xCB, 0xCE]
  | .set1A => [0xCB, 0xCF]
  | .set2B => [0xCB, 0xD0]
  | .set2C => [0xCB, 0xD1]
  | .set2D => [0xCB, 0xD2]
  | .set2E => [0xCB, 0xD3]
  | .set2H => [0xCB, 0xD4]
  | .set2L => [0xCB, 0xD5]
  | .set2AtHL => [0xCB, 0xD6]
  | .set2A => [0xCB, 0xD7]
  | .set3B => [0xCB, 0xD8]
  | .set3C => [0xCB, 0xD9]
  | .set3D => [0xCB, 0xDA]
  | .set3E => [0xCB, 0xDB]
  | .set3H => [0xCB, 0xDC]
  | .set3L => [0xCB, 0xDD]
  | .set3AtHL => [0xCB, 0xDE]
  | .set3A => [0xCB, 0xDF]
  | .set4B => [0xCB, 0xE0]
  | .set4C => [0xCB, 0xE1]
  | .set4D => [0xCB, 0xE2]
  | .set4E => [0xCB, 0xE3]
  | .set4H => [0xCB, 0xE4]
  | .set4L => [0xCB, 0xE5]
  | .set4AtHL => [0xCB, 0xE6]
  | .set4A => [0xCB, 0xE7]
  | .set5B => [0xCB, 0xE8]
  | .set5C => [0xCB, 0xE9]
  | .set5D => [0xCB, 0xEA]
  | .set5E => [0xCB, 0xEB]
  | .set5H => [0xCB, 0xEC]
  | .set5L => [0xCB, 0xED]
  | .set5AtHL => [0xCB, 0xEE]
  | .set5A => [0xCB, 0xEF]
  | .set6B => [0xCB, 0xF0]
  | .set6C => [0xCB, 0xF1]
  | .set6D => [0xCB, 0xF2]
  | .set6E => [0xCB, 0xF3]
  | .set6H => [0xCB, 0xF4]
  | .set6L => [0xCB, 0xF5]
  | .set6AtHL => [0xCB, 0xF6]
  | .set6A => [0xCB, 0xF7]
  | .set7B => [0xCB, 0xF8]
  | .set7C => [0xCB, 0xF9]
  | .set7D => [0xCB, 0xFA]
  | .set7E => [0xCB, 0xFB]
  | .set7H => [0xCB, 0xFC]
  | .set7L => [0xCB, 0xFD]
  | .set7AtHL => [0xCB, 0xFE]
  | .set7A => [0xCB, 0xFF]

/-- The length of an instruction in bytes (R160). -/
def Instr.length (i : Instr) : Nat := (encode i).length

/-- The eleven bytes with no instruction (R170, R375). -/
def illegalOpcodes : List Byte := [0xD3, 0xDB, 0xDD, 0xE3, 0xE4, 0xEB, 0xEC, 0xED, 0xF4, 0xFC, 0xFD]

/-- The bytes of a word as spec/opcode_table.json numbers it, in fetch order, three bytes with zeros above the row's bits.
A 16-bit row of the table is a CB row, which it writes with the 0xCB byte, the FIRST byte, in bits 15..8; every other word has
its first byte in bits 7..0. Log entry 3. -/
def tableBytes (nbits w : Nat) : List Byte :=
  if nbits = 16 ∧ w / 256 = 0xCB then [0xCB, BitVec.ofNat 8 w, 0x00]
  else [BitVec.ofNat 8 w, BitVec.ofNat 8 (w / 256), BitVec.ofNat 8 (w / 65536)]

/-- The instruction the decoder reads from a word of the opcode table. -/
def decodeTableWord (nbits w : Nat) : Option Instr :=
  match decode (tableBytes nbits w) with
  | .ok (i, _) => some i
  | .error _ => none

end Sys2Proof
end

