-- ==== Sys2Proof/Machine/Cycles.lean ====
section
/-! DEFINITION. The cycle costs (R470 to R475): the default tables CYC_MAIN and CYC_CB, the other default parameters of R7, and the
base cost of an instruction. -/

namespace Sys2Proof.Machine

/-- The default CYC_MAIN (R472), row by row: the not-taken cost of a conditional instruction. The entries of the eleven unrecognized
bytes (4) and of 0xCB (0) are never consulted: the first cost ILLEGAL_CYCLES, the second CYC_CB[op2]. -/
def defaultCycMain : List Nat :=
  [4, 12, 8, 8, 4, 4, 8, 4, 20, 8, 8, 8, 4, 4, 8, 4] ++
  [4, 12, 8, 8, 4, 4, 8, 4, 12, 8, 8, 8, 4, 4, 8, 4] ++
  [8, 12, 8, 8, 4, 4, 8, 4, 8, 8, 8, 8, 4, 4, 8, 4] ++
  [8, 12, 8, 8, 12, 12, 12, 4, 8, 8, 8, 8, 4, 4, 8, 4] ++
  [4, 4, 4, 4, 4, 4, 8, 4, 4, 4, 4, 4, 4, 4, 8, 4] ++
  [4, 4, 4, 4, 4, 4, 8, 4, 4, 4, 4, 4, 4, 4, 8, 4] ++
  [4, 4, 4, 4, 4, 4, 8, 4, 4, 4, 4, 4, 4, 4, 8, 4] ++
  [8, 8, 8, 8, 8, 8, 4, 8, 4, 4, 4, 4, 4, 4, 8, 4] ++
  [4, 4, 4, 4, 4, 4, 8, 4, 4, 4, 4, 4, 4, 4, 8, 4] ++
  [4, 4, 4, 4, 4, 4, 8, 4, 4, 4, 4, 4, 4, 4, 8, 4] ++
  [4, 4, 4, 4, 4, 4, 8, 4, 4, 4, 4, 4, 4, 4, 8, 4] ++
  [4, 4, 4, 4, 4, 4, 8, 4, 4, 4, 4, 4, 4, 4, 8, 4] ++
  [8, 12, 12, 16, 12, 16, 8, 16, 8, 16, 12, 0, 12, 24, 8, 16] ++
  [8, 12, 12, 4, 12, 16, 8, 16, 8, 16, 12, 4, 12, 4, 8, 16] ++
  [12, 12, 8, 4, 4, 16, 8, 16, 16, 4, 16, 4, 4, 4, 8, 16] ++
  [12, 12, 8, 4, 4, 16, 8, 16, 12, 8, 16, 4, 4, 4, 8, 16]

/-- A row of the default CYC_CB (R473): 8 for a register form, `m` for the two (HL) forms. -/
def cbCycleRow (m : Nat) : List Nat := [8, 8, 8, 8, 8, 8, m, 8, 8, 8, 8, 8, 8, 8, m, 8]

/-- The default CYC_CB (R473): rows 4x to 7x are BIT, whose (HL) forms cost 12. -/
def defaultCycCb : List Nat :=
  (List.replicate 4 (cbCycleRow 16)).flatten ++ (List.replicate 4 (cbCycleRow 12)).flatten ++
  (List.replicate 8 (cbCycleRow 16)).flatten

/-- The default parameters of R7, with the given value of the OPEN parameter ECHO_MODE. -/
def defaultParams (echo : EchoMode) : Params :=
  { echoMode := echo, accRotZ := .fromResult, divPeriod := 256, cycMain := defaultCycMain, cycCb := defaultCycCb,
    illegalCycles := 4, intDispatchCycles := 20, stopQuantum := 4 }

/-- `HALT_QUANTUM`, the cost of a halted step (R7, R474): fixed at 4. -/
def haltQuantum : Nat := 4

/-- The base cost of a main-table byte: `CYC_MAIN[op]`, or ILLEGAL_CYCLES for an unrecognized byte (R175, R375). -/
def mainCycles (p : Params) (op : Byte) : Nat :=
  if illegalOpcodes.contains op then p.illegalCycles else p.cycMain.getD op.toNat 0

/-- The base cost `c` that a step fixes before the instruction executes (R175, R177): `CYC_CB[op2]` for a CB instruction (R376), else
the cost of its first byte. -/
def baseCycles (p : Params) (i : Instr) : Nat :=
  match encode i with
  | [op, op2] => if op = 0xCB then p.cycCb.getD op2.toNat 0 else mainCycles p op
  | op :: _ => mainCycles p op
  | [] => 0

end Sys2Proof.Machine
end

