-- ==== Sys2Proof/Machine/Memory.lean ====
section
/-! DEFINITION. A byte array of the bus or the cartridge as a list of (offset, byte) pairs in one canonical form: offsets strictly
rising, every offset inside the array, and no entry equal to what an unlisted offset reads as. `fill` is that byte: 0xFF for ROM
(what a read past its end gives, R113) and 0x00 for the RAM arrays and the I/O file (log entry 4). -/

namespace Sys2Proof.Machine

/-- A byte array: its listed cells. Offsets are keys of the array, not bus addresses. -/
abbrev Memory := List Host.Cell

/-- What an offset of ROM that no cell lists reads as (R113). -/
def romFill : Byte := 0xFF

/-- What an offset of VRAM, WRAM, OAM, external RAM or the I/O file that no cell lists reads as. DESIGN CHOICE: the spec leaves it
open (INIT_RAM, INIT_ERAM; D16, D17); unsafe. Log entry 4. -/
def ramFill : Byte := 0x00

/-- The byte at offset `k`. -/
def Memory.get (fill : Byte) : Memory → Nat → Byte
  | [], _ => fill
  | (j, w) :: m, k => if k = j then w else Memory.get fill m k

/-- Put a cell in front of a list, unless it holds what an unlisted offset reads as. -/
def Memory.cons (fill : Byte) (k : Nat) (v : Byte) (m : Memory) : Memory :=
  if v = fill then m else (k, v) :: m

/-- Store byte `v` at offset `k`, keeping the canonical form. -/
def Memory.set (fill : Byte) : Memory → Nat → Byte → Memory
  | [], k, v => Memory.cons fill k v []
  | (j, w) :: m, k, v =>
    if k < j then Memory.cons fill k v ((j, w) :: m)
    else if k = j then Memory.cons fill k v m
    else (j, w) :: Memory.set fill m k v

/-- The canonical form of a list whose offsets start at `lo` or later and end before `size`. -/
def Memory.wfFrom (fill : Byte) (size : Nat) : Nat → Memory → Bool
  | _, [] => true
  | lo, (k, v) :: m =>
    decide (lo ≤ k) && decide (k < size) && decide (v ≠ fill) && Memory.wfFrom fill size (k + 1) m

/-- The canonical form of an array of `size` bytes. -/
def Memory.wf (fill : Byte) (size : Nat) (m : Memory) : Bool := Memory.wfFrom fill size 0 m

/-- The canonical form of a whole byte string, laid out from offset `k` on. -/
def Memory.ofBytes (fill : Byte) : Nat → List Byte → Memory
  | _, [] => []
  | k, v :: vs => Memory.cons fill k v (Memory.ofBytes fill (k + 1) vs)

/-- Store a byte string from offset `k` on, dropping what falls at or past `size` (R132). -/
def Memory.setBytes (fill : Byte) (size : Nat) : Memory → Nat → List Byte → Memory
  | m, _, [] => m
  | m, k, v :: vs =>
    Memory.setBytes fill size (if k < size then Memory.set fill m k v else m) (k + 1) vs

/-- The whole array as a byte string: `n` bytes from offset `k` on (R132). -/
def Memory.toBytes (fill : Byte) (m : Memory) : Nat → Nat → List Byte
  | 0, _ => []
  | n + 1, k => Memory.get fill m k :: Memory.toBytes fill m n (k + 1)

/-- Store the listed cells one by one. -/
def Memory.setCells (fill : Byte) (m : Memory) (cells : List Host.Cell) : Memory :=
  cells.foldl (fun m c => Memory.set fill m c.1 c.2) m

end Sys2Proof.Machine
end

