-- ==== Sys2Proof/Machine/Launch.lean ====
section
/-! DEFINITION. What loading a ROM gives each part of the state (R110 to R112, R450 to R453; 10_state.md section 7): the header bytes,
the controller they select, and the launch values. State.lean assembles them. -/

namespace Sys2Proof.Machine

/-- What a launch is given (R7, R453): the ROM bytes, the save blob if a file was read, the OPEN launch contents INIT_RAM (VRAM, WRAM,
OAM, and the I/O file with high RAM) and INIT_ERAM, and the parameters. -/
structure LaunchInput where
  rom      : List Byte
  save     : Option (List Byte)
  initVram : Memory
  initWram : Memory
  initOam  : Memory
  initIo   : Memory
  initEram : Memory
  params   : Params
deriving DecidableEq, Repr

/-- A header byte, read directly from the ROM array: 0 past its end (R110; C1, D53). -/
def headerByte (rom : List Byte) (i : Nat) : Byte := rom.getD i 0

/-- `COLOR` from header byte 0x0143: 0x80 or 0xC0 (R3; D27). -/
def headerColor (rom : List Byte) : Bool :=
  headerByte rom 0x143 == 0x80 || headerByte rom 0x143 == 0xC0

/-- `CART_VARIANT` from header byte 0x0147 (R111; D18). -/
def variantOfType (t : Byte) : Variant :=
  if [0x01, 0x02, 0x03].contains t then .mbc1
  else if [0x05, 0x06].contains t then .mbc2
  else if [0x0F, 0x10, 0x11, 0x12, 0x13].contains t then .mbc3
  else if [0x19, 0x1A, 0x1B, 0x1C, 0x1D, 0x1E].contains t then .mbc5
  else .plainRom

/-- The types whose save blob is loaded at construction (R111, R132). -/
def batteryType (t : Byte) : Bool :=
  [0x03, 0x06, 0x09, 0x0F, 0x10, 0x13, 0x1B, 0x1E].contains t

/-- `ERAM_SIZE` of header byte 0x0149 (R112; D19). -/
def eramSizeOfByte (v : Byte) : Nat :=
  if v = 0x01 then 0x800
  else if v = 0x02 then 0x2000
  else if v = 0x03 then 0x8000
  else if v = 0x04 then 0x20000
  else if v = 0x05 then 0x10000
  else 0

/-- `ERAM_SIZE`: 512 for MBC2, else from header byte 0x0149 (R112). -/
def headerEramSize (rom : List Byte) : Nat :=
  if variantOfType (headerByte rom 0x147) = .mbc2 then 512 else eramSizeOfByte (headerByte rom 0x149)

/-- All clock registers 0 (R68). -/
def Rtc.zero : Rtc := { seconds := 0, minutes := 0, hours := 0, dayLow := 0, dayHigh := 0 }

/-- The controller with its registers at their load values (R68). -/
def Cart.load : Variant → Cart
  | .plainRom => .plainRom
  | .mbc1 => .mbc1 { ramEnabled := false, bankLo := 0, bankHi := 0, mode := 0 }
  | .mbc2 => .mbc2 { ramEnabled := false, romBank := 0 }
  | .mbc3 => .mbc3 { ramEnabled := false, romBank := 0, ramSel := .ram 0, live := Rtc.zero, latched := Rtc.zero, latchArmed := false }
  | .mbc5 => .mbc5 { ramEnabled := false, romBank := 1, ramBank := 0 }

/-- The CPU registers at launch (R65). -/
def Cpu.launch (color : Bool) : Cpu :=
  if color then
    { a := 0x11, f := 0x80, b := 0x00, c := 0x00, d := 0xFF, e := 0x56, h := 0x00, l := 0x0D, sp := 0xFFFE, pc := 0x0100 }
  else
    { a := 0x01, f := 0xB0, b := 0x00, c := 0x13, d := 0x00, e := 0xD8, h := 0x01, l := 0x4D, sp := 0xFFFE, pc := 0x0100 }

/-- The engine at launch (R66). `cycles`, the count of a step that has not run, is 0 (log entry 5). -/
def Engine.launch : Engine :=
  { halted := false, stopped := false, ime := false, imeEnabling := false, clockT := 0, clockM := 0, cycles := 0 }

/-- The timer at launch (R66). -/
def Timer.launch : Timer := { divAcc := 0, timerAcc := 0, threshold := .t1024 }

/-- The speed state at launch (R66). -/
def Speed.launch : Speed := { doubleSpeed := false, armed := false }

/-- The HDMA state at launch (R66). -/
def Hdma.launch : Hdma := { len := 0, active := false, src := 0, dst := 0x8000 }

/-- The I/O bytes whose launch value R67 names: JOYP, TIMA, TMA, TAC, IF, LCDC, STAT, LY, DMA and IE, and HDMA5 in color mode. (KEY1,
VBK and SVBK read their R67 values in color mode from the speed and bank state of R66.) -/
def launchIo (color : Bool) : List Host.Cell :=
  [(0x00, 0xCF), (0x05, 0x00), (0x06, 0x00), (0x07, 0xF8), (0x0F, 0xE1), (0x40, 0x91), (0x41, 0x85), (0x44, 0x00), (0x46, 0xFF),
   (0xFF, 0x00)] ++ (if color then [(0x55, 0xFF)] else [])

/-- External RAM at launch: INIT_ERAM, then the save blob over it when one was read and the type has a battery (R68, R132, R453). -/
def launchEram (L : LaunchInput) : Memory :=
  match L.save with
  | some blob =>
    if batteryType (headerByte L.rom 0x147) then Memory.setBytes ramFill (headerEramSize L.rom) L.initEram 0 blob else L.initEram
  | none => L.initEram

/-- The launch contents are arrays of their sizes in canonical form, and the parameters are legal. -/
def LaunchInput.wf (L : LaunchInput) : Bool :=
  Memory.wf ramFill 0x4000 L.initVram && Memory.wf ramFill 0x8000 L.initWram && Memory.wf ramFill 0xA0 L.initOam &&
  Memory.wf ramFill 0x100 L.initIo && Memory.wf ramFill (headerEramSize L.rom) L.initEram && L.params.wf

end Sys2Proof.Machine
end

