-- ==== Sys2Proof/Machine/State.lean ====
section
/-! DEFINITION. The state of the block: everything 10_state.md gives it, as plain data, with the reasons a step can stop, and the state
after reset. -/

namespace Sys2Proof.Machine

/-- Why a step stops with a fault: never. "There are no synchronous exceptions" and "No error condition in this core should terminate
the process" (R400): the type has no constructor, so no instruction and no access can raise one. Safe: nothing stops that the spec
runs. -/
inductive Fault where
deriving DecidableEq, Repr

/-- Why an instruction has no meaning. Raised by an arm of `exec` only, for an instruction not modelled yet; every instruction has its
meaning, so no arm raises it. Safe: a refusal gives no next state. -/
inductive Refusal where
  /-- Raised by an arm of `exec` whose instruction has no meaning yet (none has). Safe. -/
  | notModelled (mnemonic : String)
deriving DecidableEq, Repr

/-- The state of the block (10_state.md).
The last three fields are the model's own: `buttons`, the host's pressed mask as the last host action set it (R56, R407); `paletteOut`,
the palette-port writes passed to the host's palette collaborator, oldest first, each the port's offset and the byte (R104); and
`draws`, the number of draws made so far, which indexes the free value of R83 and R89. -/
structure State where
  cpu        : Cpu
  engine     : Engine
  timer      : Timer
  speed      : Speed
  hdma       : Hdma
  cart       : Cart
  vramBank   : BitVec 1
  wramBank   : BitVec 3
  vram       : Memory
  wram       : Memory
  oam        : Memory
  io         : Memory
  rom        : Memory
  romLen     : Nat
  eram       : Memory
  eramSize   : Nat
  color      : Bool
  params     : Params
  buttons    : Byte
  paletteOut : List (Nat × Byte)
  draws      : Nat
deriving DecidableEq, Repr

/-- The launch that loading a ROM performs (R450, R451, R453): the ROM array, then the header's COLOR, CART_VARIANT and ERAM_SIZE, the
controller and its RAM, the save blob of a battery type, then the CPU, timer and I/O state. -/
def State.launch (L : LaunchInput) : State :=
  { cpu := Cpu.launch (headerColor L.rom), engine := Engine.launch, timer := Timer.launch, speed := Speed.launch,
    hdma := Hdma.launch, cart := Cart.load (variantOfType (headerByte L.rom 0x147)), vramBank := 0, wramBank := 1,
    vram := L.initVram, wram := L.initWram, oam := L.initOam,
    io := Memory.setCells ramFill L.initIo (launchIo (headerColor L.rom)),
    rom := Memory.ofBytes romFill 0 L.rom, romLen := L.rom.length,
    eram := launchEram L, eramSize := headerEramSize L.rom, color := headerColor L.rom, params := L.params,
    buttons := 0, paletteOut := [], draws := 0 }

/-- The launch input of a machine that nothing was loaded into: a missing ROM file gives an empty array (R453), no save blob, every
byte of INIT_RAM and INIT_ERAM as an unlisted byte reads (log entry 4), the default parameters, and ECHO_MODE left open (log entry 2). -/
def LaunchInput.empty : LaunchInput :=
  { rom := [], save := none, initVram := [], initWram := [], initOam := [], initIo := [], initEram := [],
    params := defaultParams Config.echoMode }

/-- The state after reset: the launch of an empty ROM, hence monochrome mode and PlainROM (R110, R450; C1). Log entry 6. -/
def State.reset : State := State.launch LaunchInput.empty

end Sys2Proof.Machine
end

