-- ==== Sys2Proof/Machine/Cart.lean ====
section
/-! DEFINITION. The cartridge bank controllers (R57 to R62, R113 to R132): where the two ROM windows and the external-RAM window lead,
and what a write to either does. Addresses are bus addresses as Nat; `o` is an offset into 0xA000-0xBFFF. -/

namespace Sys2Proof.Machine

/-- The variant tag of a controller (R57). -/
def Cart.variant : Cart → Variant
  | .plainRom => .plainRom
  | .mbc1 _ => .mbc1
  | .mbc2 _ => .mbc2
  | .mbc3 _ => .mbc3
  | .mbc5 _ => .mbc5

/-- "RAM-enable latch gated by a 4-bit match pattern": the low nibble is 0xA (R116, R122, R124, R130). -/
def enablePattern (v : Byte) : Bool := v &&& 0x0F == 0x0A

/-- `MBC1Bank()`: the combined bank with the remap of 0x00, 0x20, 0x40 and 0x60 (R120; C8, D21). -/
def Mbc1.bank (r : Mbc1) : Nat :=
  let b := if r.mode = 0 then r.bankHi.toNat * 32 + r.bankLo.toNat else r.bankLo.toNat
  if b % 32 = 0 then b + 1 else b

/-- `MBC1RamBank()` (R120). -/
def Mbc1.ramBank (r : Mbc1) : Nat := if r.mode = 1 then r.bankHi.toNat else 0

/-- A stored ROM bank of 0 selects bank 1 (MBC2 R122, MBC3 R125). -/
def remapZero (b : Nat) : Nat := if b = 0 then 1 else b

/-- The bank shown at 0x4000-0x7FFF (R115, R120, R122, R125, R131). -/
def Cart.romBank : Cart → Nat
  | .plainRom => 1
  | .mbc1 r => r.bank
  | .mbc2 r => remapZero r.romBank.toNat
  | .mbc3 r => remapZero r.romBank.toNat
  | .mbc5 r => r.romBank.toNat

/-- The index into the ROM array that an address 0x0000-0x7FFF reads: bank 0 below 0x4000, the selected bank above. -/
def Cart.romIndex (c : Cart) (a : Nat) : Nat :=
  if a ≤ 0x3FFF then a else c.romBank * 0x4000 + (a - 0x4000)

/-- `RomByte(i)` (R113; D20): 0xFF past the end. -/
def State.romByte (s : State) (i : Nat) : Byte :=
  if i < s.romLen then s.rom.get romFill i else 0xFF

/-- `EramByte(i)` (R114; D20): 0xFF past the end. -/
def State.eramByte (s : State) (i : Nat) : Byte :=
  if i < s.eramSize then s.eram.get ramFill i else 0xFF

/-- `EramWrite(i, v)` (R114): nothing past the end. -/
def State.eramWrite (s : State) (i : Nat) (v : Byte) : State :=
  if i < s.eramSize then { s with eram := s.eram.set ramFill i v } else s

/-- A clock register by its index (R60). -/
def Rtc.get (t : Rtc) : RtcReg → Byte
  | .seconds => t.seconds
  | .minutes => t.minutes
  | .hours => t.hours
  | .dayLow => t.dayLow
  | .dayHigh => t.dayHigh

/-- Write a clock register (R129). -/
def Rtc.set (t : Rtc) (k : RtcReg) (v : Byte) : Rtc :=
  match k with
  | .seconds => { t with seconds := v }
  | .minutes => { t with minutes := v }
  | .hours => { t with hours := v }
  | .dayLow => { t with dayLow := v }
  | .dayHigh => { t with dayHigh := v }

/-- The values of a write to 0x4000-0x5FFF that MBC3 takes: 0x00-0x03 and 0x08-0x0C; any other is ignored (R126; D52). -/
def ramSelOf (v : Byte) : Option RamSel :=
  if v.toNat ≤ 0x03 then some (.ram (v.extractLsb' 0 2))
  else if v = 0x08 then some (.clock .seconds)
  else if v = 0x09 then some (.clock .minutes)
  else if v = 0x0A then some (.clock .hours)
  else if v = 0x0B then some (.clock .dayLow)
  else if v = 0x0C then some (.clock .dayHigh)
  else none

/-- `CartWriteRom(a, v)` of MBC1 (R116 to R119). -/
def Mbc1.write (r : Mbc1) (a : Nat) (v : Byte) : Mbc1 :=
  if a ≤ 0x1FFF then { r with ramEnabled := enablePattern v }
  else if a ≤ 0x3FFF then { r with bankLo := v.extractLsb' 0 5 }
  else if a ≤ 0x5FFF then { r with bankHi := v.extractLsb' 0 2 }
  else { r with mode := v.extractLsb' 0 1 }

/-- `CartWriteRom(a, v)` of MBC2 (R122): address bit 8 selects the latch or the bank. -/
def Mbc2.write (r : Mbc2) (a : Nat) (v : Byte) : Mbc2 :=
  if a ≤ 0x3FFF then
    if a / 256 % 2 = 0 then { r with ramEnabled := enablePattern v } else { r with romBank := v.extractLsb' 0 4 }
  else r

/-- `CartWriteRom(a, v)` of MBC3 (R124 to R127). -/
def Mbc3.write (r : Mbc3) (a : Nat) (v : Byte) : Mbc3 :=
  if a ≤ 0x1FFF then { r with ramEnabled := enablePattern v }
  else if a ≤ 0x3FFF then { r with romBank := v.extractLsb' 0 7 }
  else if a ≤ 0x5FFF then { r with ramSel := (ramSelOf v).getD r.ramSel }
  else { r with latched := if r.latchArmed && v == 0x01 then r.live else r.latched, latchArmed := v == 0x00 }

/-- `CartWriteRom(a, v)` of MBC5 (R130; D24). -/
def Mbc5.write (r : Mbc5) (a : Nat) (v : Byte) : Mbc5 :=
  if a ≤ 0x1FFF then { r with ramEnabled := enablePattern v }
  else if a ≤ 0x2FFF then { r with romBank := (r.romBank &&& 0x100) ||| v.zeroExtend 9 }
  else if a ≤ 0x3FFF then { r with romBank := (r.romBank &&& 0x0FF) ||| ((v &&& 0x01).zeroExtend 9 <<< 8) }
  else if a ≤ 0x5FFF then { r with ramBank := v.extractLsb' 0 4 }
  else r

/-- `CartWriteRom(a, v)` (R72): the write reaches the controller's registers and never the ROM (R113, R115). -/
def Cart.writeRom (c : Cart) (a : Nat) (v : Byte) : Cart :=
  match c with
  | .plainRom => .plainRom
  | .mbc1 r => .mbc1 (r.write a v)
  | .mbc2 r => .mbc2 (r.write a v)
  | .mbc3 r => .mbc3 (r.write a v)
  | .mbc5 r => .mbc5 (r.write a v)

/-- `CartRead(a)` at 0xA000-0xBFFF, `o = a - 0xA000` (R74, R115, R120, R123, R128, R131): 0xFF while the latch is off (D26). -/
def State.cartReadRam (s : State) (o : Nat) : Byte :=
  match s.cart with
  | .plainRom => s.eramByte o
  | .mbc1 r => if r.ramEnabled then s.eramByte (r.ramBank * 0x2000 + o) else 0xFF
  | .mbc2 r => if r.ramEnabled then 0xF0 ||| (s.eramByte (o % 0x200) &&& 0x0F) else 0xFF
  | .mbc3 r =>
    if r.ramEnabled then
      match r.ramSel with
      | .ram bank => s.eramByte (bank.toNat * 0x2000 + o)
      | .clock k => r.latched.get k
    else 0xFF
  | .mbc5 r => if r.ramEnabled then s.eramByte (r.ramBank.toNat * 0x2000 + o) else 0xFF

/-- `CartWriteRam(a, v)`, `o = a - 0xA000` (R74, R115, R121, R123, R129, R131): "with RAM disabled, the write is a no-op"; a clock write
goes to the live register (D51). -/
def State.cartWriteRam (s : State) (o : Nat) (v : Byte) : State :=
  match s.cart with
  | .plainRom => s.eramWrite o v
  | .mbc1 r => if r.ramEnabled then s.eramWrite (r.ramBank * 0x2000 + o) v else s
  | .mbc2 r => if r.ramEnabled then s.eramWrite (o % 0x200) (v &&& 0x0F) else s
  | .mbc3 r =>
    if r.ramEnabled then
      match r.ramSel with
      | .ram bank => s.eramWrite (bank.toNat * 0x2000 + o) v
      | .clock k => { s with cart := .mbc3 { r with live := r.live.set k v } }
    else s
  | .mbc5 r => if r.ramEnabled then s.eramWrite (r.ramBank.toNat * 0x2000 + o) v else s

/-- `get_save_data()`: the whole of external RAM (R132; D47). -/
def State.getSaveData (s : State) : List Byte := s.eram.toBytes ramFill s.eramSize 0

/-- `load_save_data(blob)`: the first `min(len(blob), ERAM_SIZE)` bytes, and nothing else (R132; D47). -/
def State.loadSaveData (s : State) (blob : List Byte) : State :=
  { s with eram := s.eram.setBytes ramFill s.eramSize 0 blob }

end Sys2Proof.Machine
end

