-- ==== Sys2Proof/Machine/Bus.lean ====
section
/-! DEFINITION. The bus (20_memory.md): address decoding, the I/O ports with read and write side effects, the OAM DMA and the HDMA.
`busRead` and `noteRead` are the two halves of `MemRead`: the byte, and the state after it (which differs only in the draw counter);
`busWrite` is `MemWrite`. -/

namespace Sys2Proof.Machine

/-! ## The I/O file -/

/-- Which named port the offset `k` of the I/O file is (R82 to R107). In monochrome mode the color-mode ports are plain storage (R55,
R107; D27). -/
def ioPort (color : Bool) (k : Nat) : IoPort :=
  if k = 0x00 then .joyp
  else if k = 0x04 then .div
  else if k = 0x07 then .tac
  else if k = 0x0F then .intFlag
  else if 0x10 ≤ k ∧ k ≤ 0x3F then .sound
  else if k = 0x41 then .stat
  else if k = 0x44 then .ly
  else if k = 0x46 then .dma
  else if color then
    if k = 0x4D then .key1
    else if k = 0x4F then .vbk
    else if k = 0x55 then .hdma5
    else if 0x68 ≤ k ∧ k ≤ 0x6B then .palette
    else if k = 0x70 then .svbk
    else .plain
  else .plain

/-- The stored byte `io[k]` (R33). -/
def State.ioByte (s : State) (k : Nat) : Byte := s.io.get ramFill k

/-- `io[k] <- v` (R33). -/
def State.setIo (s : State) (k : Nat) (v : Byte) : State := { s with io := s.io.set ramFill k v }

/-- The joypad port's byte: "merges button mask with select lines" (R82; D29). -/
def joypByte (stored buttons : Byte) : Byte :=
  let sel := stored &&& 0x30
  let dirs : Byte := if sel.getLsbD 4 then 0 else buttons &&& 0x0F
  let acts : Byte := if sel.getLsbD 5 then 0 else (buttons >>> 4) &&& 0x0F
  0xC0 ||| sel ||| (~~~(dirs ||| acts) &&& 0x0F)

/-- `IoRead`: the byte a read of 0xFF00 + k gives (R80 to R89). A read of the sound range or of a color-mode palette port is a draw. -/
def State.ioRead (s : State) (k : Nat) : Byte :=
  match ioPort s.color k with
  | .joyp => joypByte (s.ioByte k) s.buttons
  | .intFlag => s.ioByte k ||| 0xE0
  | .sound => Config.freeByte s.draws
  | .palette => Config.freeByte s.draws
  | .key1 => (if s.speed.doubleSpeed then 0x80 else 0x00) ||| 0x7E ||| (if s.speed.armed then 0x01 else 0x00)
  | .vbk => 0xFE ||| s.vramBank.zeroExtend 8
  | .svbk => 0xF8 ||| s.wramBank.zeroExtend 8
  | .div | .tac | .stat | .ly | .dma | .hdma5 | .plain => s.ioByte k

/-! ## Reads -/

/-- The byte of 0xC000-0xDFFF: bank 0, then the selected bank (R75, R76). The WRAM array is indexed by `bank * 0x1000 + offset`. -/
def State.wramIndex (s : State) (a : Nat) : Nat :=
  if a ≤ 0xCFFF then a - 0xC000 else s.wramBank.toNat * 0x1000 + (a - 0xD000)

/-- The index into VRAM of an address 0x8000-0x9FFF (R73). -/
def State.vramIndex (s : State) (a : Nat) : Nat := s.vramBank.toNat * 0x2000 + (a - 0x8000)

/-- `MemRead(a, 1)`: the byte (R70). Total; the echo region follows ECHO_MODE (R77). -/
def State.busRead (s : State) (a : Word) : Byte :=
  let n := a.toNat
  if n ≤ 0x7FFF then s.romByte (s.cart.romIndex n)
  else if n ≤ 0x9FFF then s.vram.get ramFill (s.vramIndex n)
  else if n ≤ 0xBFFF then s.cartReadRam (n - 0xA000)
  else if n ≤ 0xDFFF then s.wram.get ramFill (s.wramIndex n)
  else if n ≤ 0xFDFF then
    match s.params.echoMode with
    | .stub => 0xFF
    | .mirror => s.wram.get ramFill (s.wramIndex (n - 0x2000))
  else if n ≤ 0xFE9F then s.oam.get ramFill (n - 0xFE00)
  else if n ≤ 0xFEFF then 0xFF
  else s.ioRead (n - 0xFF00)

/-- Whether a read of the address is a draw (R83, R89). -/
def State.isDraw (s : State) (a : Word) : Bool :=
  decide (0xFF00 ≤ a.toNat) &&
    (match ioPort s.color (a.toNat - 0xFF00) with
     | .sound => true
     | .palette => true
     | .joyp | .div | .tac | .intFlag | .stat | .ly | .dma | .key1 | .vbk | .hdma5 | .svbk | .plain => false)

/-- The state after `MemRead(a, 1)`: unchanged ("Reads change no state", R81), but that a draw uses up a value of the free value's
counter, so that the next draw is a fresh one (R83). -/
def State.noteRead (s : State) (a : Word) : State :=
  if s.isDraw a then { s with draws := s.draws + 1 } else s

/-! ## Writes -/

/-- Store into VRAM through the window 0x8000-0x9FFF (R73). -/
def State.vramWrite (s : State) (a : Nat) (v : Byte) : State := { s with vram := s.vram.set ramFill (s.vramIndex a) v }

/-- The threshold that TAC bits 1:0 select (R413). -/
def thresholdOf (tac : Byte) : Threshold :=
  if tac.extractLsb' 0 2 = 0 then .t1024
  else if tac.extractLsb' 0 2 = 1 then .t16
  else if tac.extractLsb' 0 2 = 2 then .t64
  else .t256

/-- DIV write (R91): DIV, `div_acc` and `timer_acc` become 0. -/
def State.writeDiv (s : State) : State :=
  { s.setIo 0x04 0 with timer := { s.timer with divAcc := 0, timerAcc := 0 } }

/-- TAC write (R93): a changed frequency restarts the timer's phase. -/
def State.writeTac (s : State) (v : Byte) : State :=
  let new := thresholdOf v
  { s.setIo 0x07 v with
    timer := if new = s.timer.threshold then s.timer else { s.timer with threshold := new, timerAcc := 0 } }

/-- The copy of the OAM DMA: `n` bytes from offset `i` on, ascending, each read through the bus (R97; D33). -/
def State.oamCopy (src : Word) : Nat → Nat → State → State
  | 0, _, s => s
  | n + 1, i, s =>
    let a := src + BitVec.ofNat 16 i
    State.oamCopy src n (i + 1) { s.noteRead a with oam := s.oam.set ramFill i (s.busRead a) }

/-- DMA write (R97): store the byte and copy 0xA0 bytes from `v << 8`. -/
def State.writeDma (s : State) (v : Byte) : State :=
  State.oamCopy (join v 0) 0xA0 0 (s.setIo 0x46 v)

/-- The copy of the HDMA: `n` bytes from offset `i` on, ascending, into VRAM at the destination offset `doff`, wrapping inside it
(R102, R103; D32). -/
def State.hdmaCopy (src : Word) (doff : Nat) : Nat → Nat → State → State
  | 0, _, s => s
  | n + 1, i, s =>
    let a := src + BitVec.ofNat 16 i
    State.hdmaCopy src doff n (i + 1) ((s.noteRead a).vramWrite (0x8000 + (doff + i) % 0x2000) (s.busRead a))

/-- The source address that HDMA1 and HDMA2 hold (R102). -/
def State.hdmaSource (s : State) : Word := join (s.ioByte 0x51) (s.ioByte 0x52) &&& 0xFFF0

/-- The destination offset in VRAM that HDMA3 and HDMA4 hold (R102). -/
def State.hdmaDestOffset (s : State) : Nat := (join (s.ioByte 0x53) (s.ioByte 0x54) &&& 0x1FF0).toNat

/-- HDMA5 write in color mode (R102; C13): cancel an active transfer, or copy at once, or arm an HBlank transfer. -/
def State.writeHdma5 (s : State) (v : Byte) : State :=
  if s.hdma.active && !v.getLsbD 7 then
    { s.setIo 0x55 (s.ioByte 0x55 ||| 0x80) with hdma := { s.hdma with active := false } }
  else if !v.getLsbD 7 then
    (State.hdmaCopy s.hdmaSource s.hdmaDestOffset (((v &&& 0x7F).toNat + 1) * 16) 0 s).setIo 0x55 0xFF
  else
    { s.setIo 0x55 (v &&& 0x7F) with
      hdma := { len := (v &&& 0x7F).toNat + 1, active := true, src := s.hdmaSource,
                dst := BitVec.ofNat 16 (0x8000 + s.hdmaDestOffset) } }

/-- SVBK's bank: 0 means 1 (R100). -/
def svbkBank (v : Byte) : BitVec 3 :=
  if v.extractLsb' 0 3 = 0 then 1 else v.extractLsb' 0 3

/-- `IoWrite`: a write to 0xFF00 + k (R80, R90 to R107). -/
def State.ioWrite (s : State) (k : Nat) (v : Byte) : State :=
  match ioPort s.color k with
  | .joyp => s.setIo k ((s.ioByte k &&& 0xCF) ||| (v &&& 0x30))
  | .div => s.writeDiv
  | .tac => s.writeTac v
  | .stat => s.setIo k (v ||| 0x80)
  | .ly => s.setIo k 0
  | .dma => s.writeDma v
  | .key1 => { s with speed := { s.speed with armed := v.getLsbD 0 } }
  | .vbk => { s with vramBank := v.extractLsb' 0 1 }
  | .svbk => { s with wramBank := svbkBank v }
  | .hdma5 => s.writeHdma5 v
  | .palette => { s.setIo k v with paletteOut := s.paletteOut ++ [(k, v)] }
  | .intFlag | .sound | .plain => s.setIo k v

/-- `MemWrite(a, 1, v)` (R71). Total: no write faults. -/
def State.busWrite (s : State) (a : Word) (v : Byte) : State :=
  let n := a.toNat
  if n ≤ 0x7FFF then { s with cart := s.cart.writeRom n v }
  else if n ≤ 0x9FFF then s.vramWrite n v
  else if n ≤ 0xBFFF then s.cartWriteRam (n - 0xA000) v
  else if n ≤ 0xDFFF then { s with wram := s.wram.set ramFill (s.wramIndex n) v }
  else if n ≤ 0xFDFF then
    match s.params.echoMode with
    | .stub => s
    | .mirror => { s with wram := s.wram.set ramFill (s.wramIndex (n - 0x2000)) v }
  else if n ≤ 0xFE9F then { s with oam := s.oam.set ramFill (n - 0xFE00) v }
  else if n ≤ 0xFEFF then s
  else s.ioWrite (n - 0xFF00) v

/-- `HBlankTick()` (R103): one block of an active HBlank transfer. -/
def State.hblankTick (s : State) : State :=
  if s.hdma.active then
    let doff := s.hdma.dst.toNat - 0x8000
    let t := State.hdmaCopy s.hdma.src doff 16 0 s
    let len := s.hdma.len - 1
    { t.setIo 0x55 (if len = 0 then 0xFF else BitVec.ofNat 8 (len - 1)) with
      hdma := { len := len, active := decide (len ≠ 0), src := s.hdma.src + 16,
                dst := BitVec.ofNat 16 (0x8000 + (doff + 16) % 0x2000) } }
  else s

end Sys2Proof.Machine
end

