-- ==== Sys2Proof/Machine/Flags.lean ====
section
/-! DEFINITION. The flags and the micro-operations of 40_microops.md: every result and flag computation of the ISA, each a pure function
that computes on unbounded numbers and narrows at the end. -/

namespace Sys2Proof.Machine

/-- What an operation does to the four flags; `none` is the spec's `-`, "leave unchanged" (R200). -/
structure FlagSet where
  z : Option Bool
  n : Option Bool
  h : Option Bool
  c : Option Bool
deriving DecidableEq, Repr

/-- The result of a micro-operation (40_microops.md). -/
structure MicroOut where
  value : Byte
  flags : FlagSet
deriving DecidableEq, Repr

/-! ## The flag register -/

/-- The Z flag, bit 7 of F (R22). -/
def Cpu.flagZ (c : Cpu) : Bool := c.f.getLsbD 7

/-- The N flag, bit 6 of F (R22). -/
def Cpu.flagN (c : Cpu) : Bool := c.f.getLsbD 6

/-- The H flag, bit 5 of F (R22). -/
def Cpu.flagH (c : Cpu) : Bool := c.f.getLsbD 5

/-- The C flag, bit 4 of F (R22). -/
def Cpu.flagC (c : Cpu) : Bool := c.f.getLsbD 4

/-- The byte of four flags: `(z << 7) | (n << 6) | (h << 5) | (c << 4)` (R200). -/
def flagByte (z n h c : Bool) : Byte :=
  BitVec.ofBool z ++ BitVec.ofBool n ++ BitVec.ofBool h ++ BitVec.ofBool c ++ 0#4

/-- Write F as a whole byte: the pair mask zeroes its low nibble (R21, R267). -/
def Cpu.setF (c : Cpu) (v : Byte) : Cpu := { c with f := v &&& 0xF0 }

/-- `SetZNHC(z, n, h, c)` (R200). -/
def Cpu.setZNHC (c : Cpu) (fl : FlagSet) : Cpu :=
  { c with f := flagByte (fl.z.getD c.flagZ) (fl.n.getD c.flagN) (fl.h.getD c.flagH) (fl.c.getD c.flagC) }

/-- `cond(cc)` (R220). -/
def Cpu.cond (c : Cpu) : Cond → Bool
  | .nz => !c.flagZ
  | .z => c.flagZ
  | .nc => !c.flagC
  | .c => c.flagC

/-! ## 8-bit arithmetic and logic -/

/-- The low nibble `a & 0xF` as a number. -/
def nibble (a : Byte) : Nat := a.toNat % 16

/-- `add8(a, b, cin)` (R201). -/
def add8 (a b : Byte) (cin : Bool) : MicroOut :=
  let s := a.toNat + b.toNat + cin.toNat
  let r := BitVec.ofNat 8 s
  { value := r,
    flags := { z := some (r == 0), n := some false, h := some (decide (nibble a + nibble b + cin.toNat > 0xF)),
               c := some (decide (s > 0xFF)) } }

/-- `sub8(a, b, cin)`: `a` is the minuend (R202; C5, D3). -/
def sub8 (a b : Byte) (cin : Bool) : MicroOut :=
  let d : Int := (a.toNat : Int) - b.toNat - cin.toNat
  let r := BitVec.ofInt 8 d
  { value := r,
    flags := { z := some (r == 0), n := some true,
               h := some (decide ((nibble a : Int) - nibble b - cin.toNat < 0)), c := some (decide (d < 0)) } }

/-- A logical operation's result with the given H; N and C are cleared (R203 to R205). -/
def logicOut (r : Byte) (h : Bool) : MicroOut :=
  { value := r, flags := { z := some (r == 0), n := some false, h := some h, c := some false } }

/-- `and8(a, b)` (R203). -/
def and8 (a b : Byte) : MicroOut := logicOut (a &&& b) true

/-- `or8(a, b)` (R204). -/
def or8 (a b : Byte) : MicroOut := logicOut (a ||| b) false

/-- `xor8(a, b)` (R205). -/
def xor8 (a b : Byte) : MicroOut := logicOut (a ^^^ b) false

/-- `cp8(a, b)`: the flags of `sub8`, no result (R206). -/
def cp8 (a b : Byte) : FlagSet := (sub8 a b false).flags

/-- `inc8(v)`: C unchanged (R207). -/
def inc8 (v : Byte) : MicroOut :=
  let r := BitVec.ofNat 8 (v.toNat + 1)
  { value := r,
    flags := { z := some (r == 0), n := some false, h := some (decide (nibble v + 1 > 0xF)), c := none } }

/-- `dec8(v)`: C unchanged (R208). -/
def dec8 (v : Byte) : MicroOut :=
  let r := BitVec.ofInt 8 ((v.toNat : Int) - 1)
  { value := r,
    flags := { z := some (r == 0), n := some true, h := some (decide ((nibble v : Int) - 1 < 0)), c := none } }

/-- The ALU operation of field `ooo` on A, an operand and the carry flag (R168, R280 to R303). The value CP computes is A itself: its
result is discarded (R206, R301). -/
def aluOp (o : AluOp) (a v : Byte) (carry : Bool) : MicroOut :=
  match o with
  | .add => add8 a v false
  | .adc => add8 a v carry
  | .sub => sub8 a v false
  | .sbc => sub8 a v carry
  | .and => and8 a v
  | .xor => xor8 a v
  | .or => or8 a v
  | .cp => { value := a, flags := cp8 a v }

/-! ## 16-bit arithmetic -/

/-- `addsp(sp, e)`: the result (R209). -/
def addspValue (sp : Word) (e : Byte) : Word := (sp.zeroExtend 32 + e.signExtend 32).truncate 16

/-- `addsp(sp, e)`: the flags, H and C from bits 4 and 8 of `a ^ b ^ s` (R209). -/
def addspFlags (sp : Word) (e : Byte) : FlagSet :=
  let a : BitVec 32 := sp.zeroExtend 32
  let b : BitVec 32 := e.signExtend 32
  let x := a ^^^ b ^^^ (a + b)
  { z := some false, n := some false, h := some (x.getLsbD 4), c := some (x.getLsbD 8) }

/-- `add16(a, b)`: the result (R210). -/
def add16Value (a b : Word) : Word := BitVec.ofNat 16 (a.toNat + b.toNat)

/-- `add16(a, b)`: the flags; Z unchanged (R210). -/
def add16Flags (a b : Word) : FlagSet :=
  { z := none, n := some false, h := some (decide (a.toNat % 0x1000 + b.toNat % 0x1000 > 0xFFF)),
    c := some (decide (a.toNat + b.toNat > 0xFFFF)) }

/-! ## Decimal adjust -/

/-- `daa(a, N, H, C)` (R211): N unchanged. -/
def daa (a : Byte) (n h c : Bool) : MicroOut :=
  let upper := c || decide (a.toNat > 0x99)
  let lower := h || decide (nibble a > 0x09)
  let t : Int :=
    if n then (a.toNat : Int) - (if c then 0x60 else 0) - (if h then 0x06 else 0)
    else (a.toNat : Int) + (if upper then 0x60 else 0) + (if lower then 0x06 else 0)
  let r := BitVec.ofInt 8 t
  { value := r,
    flags := { z := some (r == 0), n := none, h := some false, c := some (if n then c else upper) } }

/-! ## Rotates, shifts, swap -/

/-- A rotate or shift result with its carry-out: Z from the result, N and H cleared (R212 to R219). -/
def rotOut (r : Byte) (co : Bool) : MicroOut :=
  { value := r, flags := { z := some (r == 0), n := some false, h := some false, c := some co } }

/-- A bit as a byte, 0 or 1. -/
def bitByte (b : Bool) : Byte := if b then 1 else 0

/-- `rlc(v)` (R212). -/
def rlc (v : Byte) : MicroOut := rotOut ((v <<< 1) ||| bitByte (v.getLsbD 7)) (v.getLsbD 7)

/-- `rrc(v)` (R213). -/
def rrc (v : Byte) : MicroOut := rotOut ((v >>> 1) ||| (bitByte (v.getLsbD 0) <<< 7)) (v.getLsbD 0)

/-- `rl(v, cin)` (R214). -/
def rl (v : Byte) (cin : Bool) : MicroOut := rotOut ((v <<< 1) ||| bitByte cin) (v.getLsbD 7)

/-- `rr(v, cin)` (R215). -/
def rr (v : Byte) (cin : Bool) : MicroOut := rotOut ((v >>> 1) ||| (bitByte cin <<< 7)) (v.getLsbD 0)

/-- `sla(v)` (R216). -/
def sla (v : Byte) : MicroOut := rotOut (v <<< 1) (v.getLsbD 7)

/-- `sra(v)` (R217). -/
def sra (v : Byte) : MicroOut := rotOut ((v >>> 1) ||| (v &&& 0x80)) (v.getLsbD 0)

/-- `srl(v)` (R218). -/
def srl (v : Byte) : MicroOut := rotOut (v >>> 1) (v.getLsbD 0)

/-- `swap(v)`: the carry-out is 0 (R219). -/
def swap (v : Byte) : MicroOut := rotOut ((v <<< 4) ||| (v >>> 4)) false

/-- The rotate or shift of field `y` on a byte and the carry flag (R169). -/
def rotOp (o : RotOp) (v : Byte) (carry : Bool) : MicroOut :=
  match o with
  | .rlc => rlc v
  | .rrc => rrc v
  | .rl => rl v carry
  | .rr => rr v carry
  | .sla => sla v
  | .sra => sra v
  | .swap => swap v
  | .srl => srl v

/-- The flags of an accumulator rotate: Z follows ACC_ROT_Z, the rest as for the CB form (R223; C2, D6). -/
def accRotFlags (p : AccRotZ) (m : MicroOut) : FlagSet :=
  match p with
  | .fromResult => m.flags
  | .clear => { m.flags with z := some false }

/-! ## Bit operations -/

/-- `bit(b, v)`: the flags; C unchanged (R221). -/
def bitFlags (b : Fin 8) (v : Byte) : FlagSet :=
  { z := some (!v.getLsbD b.val), n := some false, h := some true, c := none }

/-- RES: `v & ~(1 << b)` (R342). -/
def resBit (b : Fin 8) (v : Byte) : Byte := v &&& ~~~(1#8 <<< b.val)

/-- SET: `v | (1 << b)` (R344). -/
def setBit (b : Fin 8) (v : Byte) : Byte := v ||| (1#8 <<< b.val)

end Sys2Proof.Machine
end

