-- ==== Sys2Proof/Machine/Operands.lean ====
section
/-! DEFINITION. The operand forms: registers and pairs of the CPU register file (R20, R163 to R166), and the 8-bit operand that is a
register or the byte at HL (R222). -/

namespace Sys2Proof.Machine

/-- Read a register (R20, R163). -/
def Cpu.reg (c : Cpu) : Reg8 → Byte
  | .b => c.b
  | .c => c.c
  | .d => c.d
  | .e => c.e
  | .h => c.h
  | .l => c.l
  | .a => c.a

/-- Write a register (R20, R163). F has no code: no such write reaches it (R222). -/
def Cpu.setReg (c : Cpu) (r : Reg8) (v : Byte) : Cpu :=
  match r with
  | .b => { c with b := v }
  | .c => { c with c := v }
  | .d => { c with d := v }
  | .e => { c with e := v }
  | .h => { c with h := v }
  | .l => { c with l := v }
  | .a => { c with a := v }

/-- BC, `hi:lo` (R20). -/
def Cpu.bc (c : Cpu) : Word := join c.b c.c

/-- DE, `hi:lo` (R20). -/
def Cpu.de (c : Cpu) : Word := join c.d c.e

/-- HL, `hi:lo` (R20). -/
def Cpu.hl (c : Cpu) : Word := join c.h c.l

/-- AF, `hi:lo` (R20). -/
def Cpu.af (c : Cpu) : Word := join c.a c.f

/-- Write HL: both halves (R20). -/
def Cpu.setHL (c : Cpu) (v : Word) : Cpu := { c with h := hiByte v, l := loByte v }

/-- Read a pair of the code `rp` (R164). -/
def Cpu.pair (c : Cpu) : Pair → Word
  | .bc => c.bc
  | .de => c.de
  | .hl => c.hl
  | .sp => c.sp

/-- Write a pair of the code `rp` (R164). -/
def Cpu.setPair (c : Cpu) (p : Pair) (v : Word) : Cpu :=
  match p with
  | .bc => { c with b := hiByte v, c := loByte v }
  | .de => { c with d := hiByte v, e := loByte v }
  | .hl => c.setHL v
  | .sp => { c with sp := v }

/-- Read a pair of the code `rp2` (R165). -/
def Cpu.stackPair (c : Cpu) : StackPair → Word
  | .bc => c.bc
  | .de => c.de
  | .hl => c.hl
  | .af => c.af

/-- Write a pair of the code `rp2`: the pair mask 0xFFF0 applies to AF (R21, R165, R267). -/
def Cpu.setStackPair (c : Cpu) (p : StackPair) (v : Word) : Cpu :=
  match p with
  | .bc => { c with b := hiByte v, c := loByte v }
  | .de => { c with d := hiByte v, e := loByte v }
  | .hl => c.setHL v
  | .af => { c with a := hiByte v }.setF (loByte v)

/-- The state with its CPU register file changed. -/
def State.mapCpu (s : State) (g : Cpu → Cpu) : State := { s with cpu := g s.cpu }

/-- The state with its engine changed. -/
def State.mapEngine (s : State) (g : Engine → Engine) : State := { s with engine := g s.engine }

/-- `ReadR(k)`: the operand's value (R222). -/
def State.readOperand (s : State) : Operand8 → Byte
  | .reg r => s.cpu.reg r
  | .atHL => s.busRead s.cpu.hl

/-- The state after `ReadR(k)` (R222): a bus read notes a draw. -/
def State.noteOperand (s : State) : Operand8 → State
  | .reg _ => s
  | .atHL => s.noteRead s.cpu.hl

/-- `WriteR(k, v)` (R222). -/
def State.writeOperand (s : State) (o : Operand8) (v : Byte) : State :=
  match o with
  | .reg r => s.mapCpu (fun c => c.setReg r v)
  | .atHL => s.busWrite s.cpu.hl v

end Sys2Proof.Machine
end

