-- ==== Sys2Proof/Machine/Ops.lean ====
section
/-! DEFINITION. The named operations over registers and memory: fetch, the stack primitives, cycle surcharges, TAKING AN INTERRUPT (the
one trap entry this hardware has) and the return from it. -/

namespace Sys2Proof.Machine

/-- What a meaning answers. -/
abbrev Out := Host.Outcome State Fault Refusal

/-! ## Fetch -/

/-- `Fetch8()`: the byte at PC, through the bus (R161). -/
def State.fetchByte (s : State) : Byte := s.busRead s.cpu.pc

/-- The state after `Fetch8()`: PC advanced by one, modulo 2^16 (R24, R161). -/
def State.afterFetch (s : State) : State :=
  (s.noteRead s.cpu.pc).mapCpu (fun c => { c with pc := c.pc + 1 })

/-! ## The stack -/

/-- SP decremented, then one byte written at it (R260). -/
def State.pushByte (s : State) (v : Byte) : State :=
  let t := s.mapCpu (fun c => { c with sp := c.sp - 1 })
  t.busWrite t.cpu.sp v

/-- `Push16(v)`: the high byte first, at the higher address (R260; D38). -/
def State.push16 (s : State) (v : Word) : State := (s.pushByte (hiByte v)).pushByte (loByte v)

/-- The state after one byte is read at SP and SP incremented (R260). -/
def State.afterPopByte (s : State) : State :=
  (s.noteRead s.cpu.sp).mapCpu (fun c => { c with sp := c.sp + 1 })

/-- `Pop16()`: the value `hi:lo`, the low byte read first (R260). -/
def State.pop16 (s : State) : Word := join (s.afterPopByte.busRead s.afterPopByte.cpu.sp) (s.busRead s.cpu.sp)

/-- The state after `Pop16()` (R260). -/
def State.afterPop16 (s : State) : State := s.afterPopByte.afterPopByte

/-! ## Control and cycles -/

/-- `pc <- target` (R9). -/
def State.setPc (s : State) (target : Word) : State := s.mapCpu (fun c => { c with pc := target })

/-- `cycles <- n` (R9): the base cost of the instruction that is about to execute. -/
def State.setCycles (s : State) (n : Nat) : State := s.mapEngine (fun g => { g with cycles := n })

/-- `cycles += n` (R9): the surcharge of a taken branch (R177). -/
def State.addCycles (s : State) (n : Nat) : State := s.mapEngine (fun g => { g with cycles := g.cycles + n })

/-! ## Interrupts -/

/-- The bit of a source in IF and IE (R401). -/
def IntSource.bit : IntSource → Nat
  | .vblank => 0
  | .lcdStat => 1
  | .timer => 2
  | .serial => 3
  | .joypad => 4

/-- The sources in the order of the scan, "bits 0..4 in ascending order" (R403). -/
def IntSource.all : List IntSource := [.vblank, .lcdStat, .timer, .serial, .joypad]

/-- The vector of a source: 0x0040 + 8n (R401, R405). -/
def IntSource.vector (n : IntSource) : Word := BitVec.ofNat 16 (0x40 + 8 * n.bit)

/-- The stored IF byte (R40). -/
def State.ifByte (s : State) : Byte := s.ioByte 0x0F

/-- The IE byte (R51). -/
def State.ieByte (s : State) : Byte := s.ioByte 0xFF

/-- `request(n)`: set bit n of IF (R402). -/
def State.request (s : State) (n : IntSource) : State := s.setIo 0x0F (s.ifByte ||| (1#8 <<< n.bit))

/-- Whether any source is requested and enabled: `IF & IE & 0x1F ≠ 0` (R175; D10). -/
def State.anyPending (s : State) : Bool := s.ifByte &&& s.ieByte &&& 0x1F != 0

/-- The source to service: "the lowest-indexed set bit that is both requested and enabled" (R403, R404). -/
def State.pendingSource (s : State) : Option IntSource :=
  IntSource.all.find? (fun n => s.ifByte.getLsbD n.bit && s.ieByte.getLsbD n.bit)

/-- TAKING AN INTERRUPT (R405): clear `ime` and `halted`, clear IF bit n, then push PC through the bus and go to the vector. Nothing else is
saved and no mode changes; the IF bit is cleared before the push (D50). -/
def State.takeInterrupt (s : State) (n : IntSource) : State :=
  let t := s.mapEngine (fun g => { g with ime := false, halted := false })
  let u := t.setIo 0x0F (t.ifByte &&& ~~~(1#8 <<< n.bit))
  (u.push16 u.cpu.pc).setPc n.vector

/-- Return: `PC <- Pop16()` (R357). -/
def State.ret (s : State) : State := s.afterPop16.setPc s.pop16

/-- RETURN FROM AN INTERRUPT (R359, R406; D12): pop PC, set `ime` at once and drop a pending enable. Nothing else is restored. -/
def State.returnFromInterrupt (s : State) : State :=
  s.ret.mapEngine (fun g => { g with ime := true, imeEnabling := false })

/-- Call: push the address after the instruction and go to the target (R355, R360). -/
def State.call (s : State) (target : Word) : State := (s.push16 s.cpu.pc).setPc target

end Sys2Proof.Machine
end

