-- ==== Sys2Proof/Machine/Alu16.lean ====
section
/-! DEFINITION. The 16-bit arithmetic instructions (44_alu16.md, R315 to R318). -/

namespace Sys2Proof.Machine

/-- ADD HL,rr (R315). -/
def addHL (p : Pair) (s : State) : State :=
  s.mapCpu (fun c => (c.setHL (add16Value c.hl (c.pair p))).setZNHC (add16Flags c.hl (c.pair p)))

/-- INC rr: no flag changes (R316). -/
def incPair (p : Pair) (s : State) : State := s.mapCpu (fun c => c.setPair p (c.pair p + 1))

/-- DEC rr: no flag changes (R317). -/
def decPair (p : Pair) (s : State) : State := s.mapCpu (fun c => c.setPair p (c.pair p - 1))

/-- ADD SP,e8 (R318). -/
def addSP (e : Byte) (s : State) : State :=
  s.mapCpu (fun c => { c with sp := addspValue c.sp e }.setZNHC (addspFlags c.sp e))

/-- INC BC (R316). -/
def execIncBC (s : State) : Out := .next (incPair .bc s)

/-- ADD HL,BC (R315). -/
def execAddHLBC (s : State) : Out := .next (addHL .bc s)

/-- DEC BC (R317). -/
def execDecBC (s : State) : Out := .next (decPair .bc s)

/-- INC DE (R316). -/
def execIncDE (s : State) : Out := .next (incPair .de s)

/-- ADD HL,DE (R315). -/
def execAddHLDE (s : State) : Out := .next (addHL .de s)

/-- DEC DE (R317). -/
def execDecDE (s : State) : Out := .next (decPair .de s)

/-- INC HL (R316). -/
def execIncHL (s : State) : Out := .next (incPair .hl s)

/-- ADD HL,HL (R315). -/
def execAddHLHL (s : State) : Out := .next (addHL .hl s)

/-- DEC HL (R317). -/
def execDecHL (s : State) : Out := .next (decPair .hl s)

/-- INC SP (R316). -/
def execIncSP (s : State) : Out := .next (incPair .sp s)

/-- ADD HL,SP (R315). -/
def execAddHLSP (s : State) : Out := .next (addHL .sp s)

/-- DEC SP (R317). -/
def execDecSP (s : State) : Out := .next (decPair .sp s)

/-- ADD SP,e8 (R318). -/
def execAddSPE8 (e8 : Byte) (s : State) : Out := .next (addSP e8 s)

end Sys2Proof.Machine
end

