-- ==== Sys2Proof/Machine/Alu8.lean ====
section
/-! DEFINITION. The 8-bit arithmetic and logic instructions (43_alu8.md, R280 to R311). -/

namespace Sys2Proof.Machine

/-- A micro-operation's result into A and its flags into F. -/
def Cpu.writeA (c : Cpu) (m : MicroOut) : Cpu := { c with a := m.value }.setZNHC m.flags

/-- The `r` and `(HL)` forms of an ALU operation (R280 to R302): the operand is read once. -/
def aluWith (o : AluOp) (k : Operand8) (s : State) : State :=
  (s.noteOperand k).mapCpu (fun c => c.writeA (aluOp o c.a (s.readOperand k) c.flagC))

/-- The `d8` form of an ALU operation (R282 to R303). -/
def aluImm (o : AluOp) (v : Byte) (s : State) : State := s.mapCpu (fun c => c.writeA (aluOp o c.a v c.flagC))

/-- One read, one micro-operation, one write of the same operand, then the flags (R222). -/
def modifyOperand (g : Byte → Bool → MicroOut) (k : Operand8) (s : State) : State :=
  let m := g (s.readOperand k) s.cpu.flagC
  ((s.noteOperand k).writeOperand k m.value).mapCpu (fun c => c.setZNHC m.flags)

/-- INC r and INC (HL) (R304, R305). -/
def incOperand (k : Operand8) (s : State) : State := modifyOperand (fun v _ => inc8 v) k s

/-- DEC r and DEC (HL) (R306, R307). -/
def decOperand (k : Operand8) (s : State) : State := modifyOperand (fun v _ => dec8 v) k s

/-- DAA (R308). -/
def decimalAdjust (s : State) : State := s.mapCpu (fun c => c.writeA (daa c.a c.flagN c.flagH c.flagC))

/-- CPL (R309): N and H set, Z and C unchanged. -/
def complementA (s : State) : State :=
  s.mapCpu (fun c => c.writeA { value := c.a ^^^ 0xFF, flags := { z := none, n := some true, h := some true, c := none } })

/-- SCF (R310). -/
def setCarry (s : State) : State :=
  s.mapCpu (fun c => c.setZNHC { z := none, n := some false, h := some false, c := some true })

/-- CCF (R311). -/
def complementCarry (s : State) : State :=
  s.mapCpu (fun c => c.setZNHC { z := none, n := some false, h := some false, c := some (!c.flagC) })

/-- INC B (R304). -/
def execIncB (s : State) : Out := .next (incOperand (.reg .b) s)

/-- DEC B (R306). -/
def execDecB (s : State) : Out := .next (decOperand (.reg .b) s)

/-- INC C (R304). -/
def execIncC (s : State) : Out := .next (incOperand (.reg .c) s)

/-- DEC C (R306). -/
def execDecC (s : State) : Out := .next (decOperand (.reg .c) s)

/-- INC D (R304). -/
def execIncD (s : State) : Out := .next (incOperand (.reg .d) s)

/-- DEC D (R306). -/
def execDecD (s : State) : Out := .next (decOperand (.reg .d) s)

/-- INC E (R304). -/
def execIncE (s : State) : Out := .next (incOperand (.reg .e) s)

/-- DEC E (R306). -/
def execDecE (s : State) : Out := .next (decOperand (.reg .e) s)

/-- INC H (R304). -/
def execIncH (s : State) : Out := .next (incOperand (.reg .h) s)

/-- DEC H (R306). -/
def execDecH (s : State) : Out := .next (decOperand (.reg .h) s)

/-- DAA (R308). -/
def execDaa (s : State) : Out := .next (decimalAdjust s)

/-- INC L (R304). -/
def execIncL (s : State) : Out := .next (incOperand (.reg .l) s)

/-- DEC L (R306). -/
def execDecL (s : State) : Out := .next (decOperand (.reg .l) s)

/-- CPL (R309). -/
def execCpl (s : State) : Out := .next (complementA s)

/-- INC (HL) (R305). -/
def execIncAtHL (s : State) : Out := .next (incOperand .atHL s)

/-- DEC (HL) (R307). -/
def execDecAtHL (s : State) : Out := .next (decOperand .atHL s)

/-- SCF (R310). -/
def execScf (s : State) : Out := .next (setCarry s)

/-- INC A (R304). -/
def execIncA (s : State) : Out := .next (incOperand (.reg .a) s)

/-- DEC A (R306). -/
def execDecA (s : State) : Out := .next (decOperand (.reg .a) s)

/-- CCF (R311). -/
def execCcf (s : State) : Out := .next (complementCarry s)

/-- ADD A,B (R280). -/
def execAddAB (s : State) : Out := .next (aluWith .add (.reg .b) s)

/-- ADD A,C (R280). -/
def execAddAC (s : State) : Out := .next (aluWith .add (.reg .c) s)

/-- ADD A,D (R280). -/
def execAddAD (s : State) : Out := .next (aluWith .add (.reg .d) s)

/-- ADD A,E (R280). -/
def execAddAE (s : State) : Out := .next (aluWith .add (.reg .e) s)

/-- ADD A,H (R280). -/
def execAddAH (s : State) : Out := .next (aluWith .add (.reg .h) s)

/-- ADD A,L (R280). -/
def execAddAL (s : State) : Out := .next (aluWith .add (.reg .l) s)

/-- ADD A,(HL) (R281). -/
def execAddAAtHL (s : State) : Out := .next (aluWith .add .atHL s)

/-- ADD A,A (R280). -/
def execAddAA (s : State) : Out := .next (aluWith .add (.reg .a) s)

/-- ADC A,B (R283). -/
def execAdcAB (s : State) : Out := .next (aluWith .adc (.reg .b) s)

/-- ADC A,C (R283). -/
def execAdcAC (s : State) : Out := .next (aluWith .adc (.reg .c) s)

/-- ADC A,D (R283). -/
def execAdcAD (s : State) : Out := .next (aluWith .adc (.reg .d) s)

/-- ADC A,E (R283). -/
def execAdcAE (s : State) : Out := .next (aluWith .adc (.reg .e) s)

/-- ADC A,H (R283). -/
def execAdcAH (s : State) : Out := .next (aluWith .adc (.reg .h) s)

/-- ADC A,L (R283). -/
def execAdcAL (s : State) : Out := .next (aluWith .adc (.reg .l) s)

/-- ADC A,(HL) (R284). -/
def execAdcAAtHL (s : State) : Out := .next (aluWith .adc .atHL s)

/-- ADC A,A (R283). -/
def execAdcAA (s : State) : Out := .next (aluWith .adc (.reg .a) s)

/-- SUB B (R286). -/
def execSubB (s : State) : Out := .next (aluWith .sub (.reg .b) s)

/-- SUB C (R286). -/
def execSubC (s : State) : Out := .next (aluWith .sub (.reg .c) s)

/-- SUB D (R286). -/
def execSubD (s : State) : Out := .next (aluWith .sub (.reg .d) s)

/-- SUB E (R286). -/
def execSubE (s : State) : Out := .next (aluWith .sub (.reg .e) s)

/-- SUB H (R286). -/
def execSubH (s : State) : Out := .next (aluWith .sub (.reg .h) s)

/-- SUB L (R286). -/
def execSubL (s : State) : Out := .next (aluWith .sub (.reg .l) s)

/-- SUB (HL) (R287). -/
def execSubAtHL (s : State) : Out := .next (aluWith .sub .atHL s)

/-- SUB A (R286). -/
def execSubA (s : State) : Out := .next (aluWith .sub (.reg .a) s)

/-- SBC A,B (R289). -/
def execSbcAB (s : State) : Out := .next (aluWith .sbc (.reg .b) s)

/-- SBC A,C (R289). -/
def execSbcAC (s : State) : Out := .next (aluWith .sbc (.reg .c) s)

/-- SBC A,D (R289). -/
def execSbcAD (s : State) : Out := .next (aluWith .sbc (.reg .d) s)

/-- SBC A,E (R289). -/
def execSbcAE (s : State) : Out := .next (aluWith .sbc (.reg .e) s)

/-- SBC A,H (R289). -/
def execSbcAH (s : State) : Out := .next (aluWith .sbc (.reg .h) s)

/-- SBC A,L (R289). -/
def execSbcAL (s : State) : Out := .next (aluWith .sbc (.reg .l) s)

/-- SBC A,(HL) (R290). -/
def execSbcAAtHL (s : State) : Out := .next (aluWith .sbc .atHL s)

/-- SBC A,A (R289). -/
def execSbcAA (s : State) : Out := .next (aluWith .sbc (.reg .a) s)

/-- AND B (R292). -/
def execAndB (s : State) : Out := .next (aluWith .and (.reg .b) s)

/-- AND C (R292). -/
def execAndC (s : State) : Out := .next (aluWith .and (.reg .c) s)

/-- AND D (R292). -/
def execAndD (s : State) : Out := .next (aluWith .and (.reg .d) s)

/-- AND E (R292). -/
def execAndE (s : State) : Out := .next (aluWith .and (.reg .e) s)

/-- AND H (R292). -/
def execAndH (s : State) : Out := .next (aluWith .and (.reg .h) s)

/-- AND L (R292). -/
def execAndL (s : State) : Out := .next (aluWith .and (.reg .l) s)

/-- AND (HL) (R293). -/
def execAndAtHL (s : State) : Out := .next (aluWith .and .atHL s)

/-- AND A (R292). -/
def execAndA (s : State) : Out := .next (aluWith .and (.reg .a) s)

/-- XOR B (R295). -/
def execXorB (s : State) : Out := .next (aluWith .xor (.reg .b) s)

/-- XOR C (R295). -/
def execXorC (s : State) : Out := .next (aluWith .xor (.reg .c) s)

/-- XOR D (R295). -/
def execXorD (s : State) : Out := .next (aluWith .xor (.reg .d) s)

/-- XOR E (R295). -/
def execXorE (s : State) : Out := .next (aluWith .xor (.reg .e) s)

/-- XOR H (R295). -/
def execXorH (s : State) : Out := .next (aluWith .xor (.reg .h) s)

/-- XOR L (R295). -/
def execXorL (s : State) : Out := .next (aluWith .xor (.reg .l) s)

/-- XOR (HL) (R296). -/
def execXorAtHL (s : State) : Out := .next (aluWith .xor .atHL s)

/-- XOR A (R295). -/
def execXorA (s : State) : Out := .next (aluWith .xor (.reg .a) s)

/-- OR B (R298). -/
def execOrB (s : State) : Out := .next (aluWith .or (.reg .b) s)

/-- OR C (R298). -/
def execOrC (s : State) : Out := .next (aluWith .or (.reg .c) s)

/-- OR D (R298). -/
def execOrD (s : State) : Out := .next (aluWith .or (.reg .d) s)

/-- OR E (R298). -/
def execOrE (s : State) : Out := .next (aluWith .or (.reg .e) s)

/-- OR H (R298). -/
def execOrH (s : State) : Out := .next (aluWith .or (.reg .h) s)

/-- OR L (R298). -/
def execOrL (s : State) : Out := .next (aluWith .or (.reg .l) s)

/-- OR (HL) (R299). -/
def execOrAtHL (s : State) : Out := .next (aluWith .or .atHL s)

/-- OR A (R298). -/
def execOrA (s : State) : Out := .next (aluWith .or (.reg .a) s)

/-- CP B (R301). -/
def execCpB (s : State) : Out := .next (aluWith .cp (.reg .b) s)

/-- CP C (R301). -/
def execCpC (s : State) : Out := .next (aluWith .cp (.reg .c) s)

/-- CP D (R301). -/
def execCpD (s : State) : Out := .next (aluWith .cp (.reg .d) s)

/-- CP E (R301). -/
def execCpE (s : State) : Out := .next (aluWith .cp (.reg .e) s)

/-- CP H (R301). -/
def execCpH (s : State) : Out := .next (aluWith .cp (.reg .h) s)

/-- CP L (R301). -/
def execCpL (s : State) : Out := .next (aluWith .cp (.reg .l) s)

/-- CP (HL) (R302). -/
def execCpAtHL (s : State) : Out := .next (aluWith .cp .atHL s)

/-- CP A (R301). -/
def execCpA (s : State) : Out := .next (aluWith .cp (.reg .a) s)

/-- ADD A,d8 (R282). -/
def execAddAD8 (d8 : Byte) (s : State) : Out := .next (aluImm .add d8 s)

/-- ADC A,d8 (R285). -/
def execAdcAD8 (d8 : Byte) (s : State) : Out := .next (aluImm .adc d8 s)

/-- SUB d8 (R288). -/
def execSubD8 (d8 : Byte) (s : State) : Out := .next (aluImm .sub d8 s)

/-- SBC A,d8 (R291). -/
def execSbcAD8 (d8 : Byte) (s : State) : Out := .next (aluImm .sbc d8 s)

/-- AND d8 (R294). -/
def execAndD8 (d8 : Byte) (s : State) : Out := .next (aluImm .and d8 s)

/-- XOR d8 (R297). -/
def execXorD8 (d8 : Byte) (s : State) : Out := .next (aluImm .xor d8 s)

/-- OR d8 (R300). -/
def execOrD8 (d8 : Byte) (s : State) : Out := .next (aluImm .or d8 s)

/-- CP d8 (R303). -/
def execCpD8 (d8 : Byte) (s : State) : Out := .next (aluImm .cp d8 s)

end Sys2Proof.Machine
end

