-- ==== Sys2Proof/Machine/Rotate.lean ====
section
/-! DEFINITION. The accumulator rotates and the CB rotates, shifts and swap (45_rotate_shift_bit.md, R320 to R339). -/

namespace Sys2Proof.Machine

/-- RLCA, RRCA, RLA and RRA: the CB operation on A with Z by ACC_ROT_Z (R320 to R323). -/
def accRotate (o : RotOp) (s : State) : State :=
  let m := rotOp o s.cpu.a s.cpu.flagC
  s.mapCpu (fun c => c.writeA { value := m.value, flags := accRotFlags s.params.accRotZ m })

/-- A CB rotate, shift or swap of a register or of the byte at HL (R324 to R339). -/
def rotateOperand (o : RotOp) (k : Operand8) (s : State) : State := modifyOperand (rotOp o) k s

/-- RLCA (R320). -/
def execRlca (s : State) : Out := .next (accRotate .rlc s)

/-- RRCA (R322). -/
def execRrca (s : State) : Out := .next (accRotate .rrc s)

/-- RLA (R321). -/
def execRla (s : State) : Out := .next (accRotate .rl s)

/-- RRA (R323). -/
def execRra (s : State) : Out := .next (accRotate .rr s)

/-- RLC B (R324). -/
def execRlcB (s : State) : Out := .next (rotateOperand .rlc (.reg .b) s)

/-- RLC C (R324). -/
def execRlcC (s : State) : Out := .next (rotateOperand .rlc (.reg .c) s)

/-- RLC D (R324). -/
def execRlcD (s : State) : Out := .next (rotateOperand .rlc (.reg .d) s)

/-- RLC E (R324). -/
def execRlcE (s : State) : Out := .next (rotateOperand .rlc (.reg .e) s)

/-- RLC H (R324). -/
def execRlcH (s : State) : Out := .next (rotateOperand .rlc (.reg .h) s)

/-- RLC L (R324). -/
def execRlcL (s : State) : Out := .next (rotateOperand .rlc (.reg .l) s)

/-- RLC (HL) (R325). -/
def execRlcAtHL (s : State) : Out := .next (rotateOperand .rlc .atHL s)

/-- RLC A (R324). -/
def execRlcA (s : State) : Out := .next (rotateOperand .rlc (.reg .a) s)

/-- RRC B (R326). -/
def execRrcB (s : State) : Out := .next (rotateOperand .rrc (.reg .b) s)

/-- RRC C (R326). -/
def execRrcC (s : State) : Out := .next (rotateOperand .rrc (.reg .c) s)

/-- RRC D (R326). -/
def execRrcD (s : State) : Out := .next (rotateOperand .rrc (.reg .d) s)

/-- RRC E (R326). -/
def execRrcE (s : State) : Out := .next (rotateOperand .rrc (.reg .e) s)

/-- RRC H (R326). -/
def execRrcH (s : State) : Out := .next (rotateOperand .rrc (.reg .h) s)

/-- RRC L (R326). -/
def execRrcL (s : State) : Out := .next (rotateOperand .rrc (.reg .l) s)

/-- RRC (HL) (R327). -/
def execRrcAtHL (s : State) : Out := .next (rotateOperand .rrc .atHL s)

/-- RRC A (R326). -/
def execRrcA (s : State) : Out := .next (rotateOperand .rrc (.reg .a) s)

/-- RL B (R328). -/
def execRlB (s : State) : Out := .next (rotateOperand .rl (.reg .b) s)

/-- RL C (R328). -/
def execRlC (s : State) : Out := .next (rotateOperand .rl (.reg .c) s)

/-- RL D (R328). -/
def execRlD (s : State) : Out := .next (rotateOperand .rl (.reg .d) s)

/-- RL E (R328). -/
def execRlE (s : State) : Out := .next (rotateOperand .rl (.reg .e) s)

/-- RL H (R328). -/
def execRlH (s : State) : Out := .next (rotateOperand .rl (.reg .h) s)

/-- RL L (R328). -/
def execRlL (s : State) : Out := .next (rotateOperand .rl (.reg .l) s)

/-- RL (HL) (R329). -/
def execRlAtHL (s : State) : Out := .next (rotateOperand .rl .atHL s)

/-- RL A (R328). -/
def execRlA (s : State) : Out := .next (rotateOperand .rl (.reg .a) s)

/-- RR B (R330). -/
def execRrB (s : State) : Out := .next (rotateOperand .rr (.reg .b) s)

/-- RR C (R330). -/
def execRrC (s : State) : Out := .next (rotateOperand .rr (.reg .c) s)

/-- RR D (R330). -/
def execRrD (s : State) : Out := .next (rotateOperand .rr (.reg .d) s)

/-- RR E (R330). -/
def execRrE (s : State) : Out := .next (rotateOperand .rr (.reg .e) s)

/-- RR H (R330). -/
def execRrH (s : State) : Out := .next (rotateOperand .rr (.reg .h) s)

/-- RR L (R330). -/
def execRrL (s : State) : Out := .next (rotateOperand .rr (.reg .l) s)

/-- RR (HL) (R331). -/
def execRrAtHL (s : State) : Out := .next (rotateOperand .rr .atHL s)

/-- RR A (R330). -/
def execRrA (s : State) : Out := .next (rotateOperand .rr (.reg .a) s)

/-- SLA B (R332). -/
def execSlaB (s : State) : Out := .next (rotateOperand .sla (.reg .b) s)

/-- SLA C (R332). -/
def execSlaC (s : State) : Out := .next (rotateOperand .sla (.reg .c) s)

/-- SLA D (R332). -/
def execSlaD (s : State) : Out := .next (rotateOperand .sla (.reg .d) s)

/-- SLA E (R332). -/
def execSlaE (s : State) : Out := .next (rotateOperand .sla (.reg .e) s)

/-- SLA H (R332). -/
def execSlaH (s : State) : Out := .next (rotateOperand .sla (.reg .h) s)

/-- SLA L (R332). -/
def execSlaL (s : State) : Out := .next (rotateOperand .sla (.reg .l) s)

/-- SLA (HL) (R333). -/
def execSlaAtHL (s : State) : Out := .next (rotateOperand .sla .atHL s)

/-- SLA A (R332). -/
def execSlaA (s : State) : Out := .next (rotateOperand .sla (.reg .a) s)

/-- SRA B (R334). -/
def execSraB (s : State) : Out := .next (rotateOperand .sra (.reg .b) s)

/-- SRA C (R334). -/
def execSraC (s : State) : Out := .next (rotateOperand .sra (.reg .c) s)

/-- SRA D (R334). -/
def execSraD (s : State) : Out := .next (rotateOperand .sra (.reg .d) s)

/-- SRA E (R334). -/
def execSraE (s : State) : Out := .next (rotateOperand .sra (.reg .e) s)

/-- SRA H (R334). -/
def execSraH (s : State) : Out := .next (rotateOperand .sra (.reg .h) s)

/-- SRA L (R334). -/
def execSraL (s : State) : Out := .next (rotateOperand .sra (.reg .l) s)

/-- SRA (HL) (R335). -/
def execSraAtHL (s : State) : Out := .next (rotateOperand .sra .atHL s)

/-- SRA A (R334). -/
def execSraA (s : State) : Out := .next (rotateOperand .sra (.reg .a) s)

/-- SWAP B (R336). -/
def execSwapB (s : State) : Out := .next (rotateOperand .swap (.reg .b) s)

/-- SWAP C (R336). -/
def execSwapC (s : State) : Out := .next (rotateOperand .swap (.reg .c) s)

/-- SWAP D (R336). -/
def execSwapD (s : State) : Out := .next (rotateOperand .swap (.reg .d) s)

/-- SWAP E (R336). -/
def execSwapE (s : State) : Out := .next (rotateOperand .swap (.reg .e) s)

/-- SWAP H (R336). -/
def execSwapH (s : State) : Out := .next (rotateOperand .swap (.reg .h) s)

/-- SWAP L (R336). -/
def execSwapL (s : State) : Out := .next (rotateOperand .swap (.reg .l) s)

/-- SWAP (HL) (R337). -/
def execSwapAtHL (s : State) : Out := .next (rotateOperand .swap .atHL s)

/-- SWAP A (R336). -/
def execSwapA (s : State) : Out := .next (rotateOperand .swap (.reg .a) s)

/-- SRL B (R338). -/
def execSrlB (s : State) : Out := .next (rotateOperand .srl (.reg .b) s)

/-- SRL C (R338). -/
def execSrlC (s : State) : Out := .next (rotateOperand .srl (.reg .c) s)

/-- SRL D (R338). -/
def execSrlD (s : State) : Out := .next (rotateOperand .srl (.reg .d) s)

/-- SRL E (R338). -/
def execSrlE (s : State) : Out := .next (rotateOperand .srl (.reg .e) s)

/-- SRL H (R338). -/
def execSrlH (s : State) : Out := .next (rotateOperand .srl (.reg .h) s)

/-- SRL L (R338). -/
def execSrlL (s : State) : Out := .next (rotateOperand .srl (.reg .l) s)

/-- SRL (HL) (R339). -/
def execSrlAtHL (s : State) : Out := .next (rotateOperand .srl .atHL s)

/-- SRL A (R338). -/
def execSrlA (s : State) : Out := .next (rotateOperand .srl (.reg .a) s)

end Sys2Proof.Machine
end

