-- ==== Sys2Proof/Machine/BitOps.lean ====
section
/-! DEFINITION. BIT, RES and SET (45_rotate_shift_bit.md, R340 to R345), and the 0xCB prefix row (R376). -/

namespace Sys2Proof.Machine

/-- BIT b: one read, no write, C unchanged (R340, R341). -/
def testBit (b : Fin 8) (k : Operand8) (s : State) : State :=
  (s.noteOperand k).mapCpu (fun c => c.setZNHC (bitFlags b (s.readOperand k)))

/-- RES b: one read then one write; no flag (R342, R343). -/
def clearBit (b : Fin 8) (k : Operand8) (s : State) : State :=
  (s.noteOperand k).writeOperand k (resBit b (s.readOperand k))

/-- SET b: one read then one write; no flag (R344, R345). -/
def setBitOf (b : Fin 8) (k : Operand8) (s : State) : State :=
  (s.noteOperand k).writeOperand k (setBit b (s.readOperand k))

/-- The operand of a 3-bit code `r` (R163). -/
def operandOfCode (z : BitVec 3) : Operand8 :=
  match z with
  | 0 => .reg .b
  | 1 => .reg .c
  | 2 => .reg .d
  | 3 => .reg .e
  | 4 => .reg .h
  | 5 => .reg .l
  | 6 => .atHL
  | 7 => .reg .a

/-- The rotate or shift of a 3-bit code `y` (R169). -/
def rotOfCode (y : BitVec 3) : RotOp :=
  match y with
  | 0 => .rlc
  | 1 => .rrc
  | 2 => .rl
  | 3 => .rr
  | 4 => .sla
  | 5 => .sra
  | 6 => .swap
  | 7 => .srl

/-- "execute CB-table entry op2" (R376), by the fields of `op2`: x selects the operation, y the rotate or the bit, z the operand (R162,
R169). -/
def cbOperation (op2 : Byte) (s : State) : State :=
  let y := field op2 3 3
  let k := operandOfCode (field op2 0 3)
  match field op2 6 2 with
  | 0 => rotateOperand (rotOfCode y) k s
  | 1 => testBit y.toFin k s
  | 2 => clearBit y.toFin k s
  | 3 => setBitOf y.toFin k s

/-- PREFIX CB (R376). -/
def execPrefixCb (op2 : Byte) (s : State) : Out := .next (cbOperation op2 s)

/-- BIT 0,B (R340). -/
def execBit0B (s : State) : Out := .next (testBit 0 (.reg .b) s)

/-- BIT 0,C (R340). -/
def execBit0C (s : State) : Out := .next (testBit 0 (.reg .c) s)

/-- BIT 0,D (R340). -/
def execBit0D (s : State) : Out := .next (testBit 0 (.reg .d) s)

/-- BIT 0,E (R340). -/
def execBit0E (s : State) : Out := .next (testBit 0 (.reg .e) s)

/-- BIT 0,H (R340). -/
def execBit0H (s : State) : Out := .next (testBit 0 (.reg .h) s)

/-- BIT 0,L (R340). -/
def execBit0L (s : State) : Out := .next (testBit 0 (.reg .l) s)

/-- BIT 0,(HL) (R341). -/
def execBit0AtHL (s : State) : Out := .next (testBit 0 .atHL s)

/-- BIT 0,A (R340). -/
def execBit0A (s : State) : Out := .next (testBit 0 (.reg .a) s)

/-- BIT 1,B (R340). -/
def execBit1B (s : State) : Out := .next (testBit 1 (.reg .b) s)

/-- BIT 1,C (R340). -/
def execBit1C (s : State) : Out := .next (testBit 1 (.reg .c) s)

/-- BIT 1,D (R340). -/
def execBit1D (s : State) : Out := .next (testBit 1 (.reg .d) s)

/-- BIT 1,E (R340). -/
def execBit1E (s : State) : Out := .next (testBit 1 (.reg .e) s)

/-- BIT 1,H (R340). -/
def execBit1H (s : State) : Out := .next (testBit 1 (.reg .h) s)

/-- BIT 1,L (R340). -/
def execBit1L (s : State) : Out := .next (testBit 1 (.reg .l) s)

/-- BIT 1,(HL) (R341). -/
def execBit1AtHL (s : State) : Out := .next (testBit 1 .atHL s)

/-- BIT 1,A (R340). -/
def execBit1A (s : State) : Out := .next (testBit 1 (.reg .a) s)

/-- BIT 2,B (R340). -/
def execBit2B (s : State) : Out := .next (testBit 2 (.reg .b) s)

/-- BIT 2,C (R340). -/
def execBit2C (s : State) : Out := .next (testBit 2 (.reg .c) s)

/-- BIT 2,D (R340). -/
def execBit2D (s : State) : Out := .next (testBit 2 (.reg .d) s)

/-- BIT 2,E (R340). -/
def execBit2E (s : State) : Out := .next (testBit 2 (.reg .e) s)

/-- BIT 2,H (R340). -/
def execBit2H (s : State) : Out := .next (testBit 2 (.reg .h) s)

/-- BIT 2,L (R340). -/
def execBit2L (s : State) : Out := .next (testBit 2 (.reg .l) s)

/-- BIT 2,(HL) (R341). -/
def execBit2AtHL (s : State) : Out := .next (testBit 2 .atHL s)

/-- BIT 2,A (R340). -/
def execBit2A (s : State) : Out := .next (testBit 2 (.reg .a) s)

/-- BIT 3,B (R340). -/
def execBit3B (s : State) : Out := .next (testBit 3 (.reg .b) s)

/-- BIT 3,C (R340). -/
def execBit3C (s : State) : Out := .next (testBit 3 (.reg .c) s)

/-- BIT 3,D (R340). -/
def execBit3D (s : State) : Out := .next (testBit 3 (.reg .d) s)

/-- BIT 3,E (R340). -/
def execBit3E (s : State) : Out := .next (testBit 3 (.reg .e) s)

/-- BIT 3,H (R340). -/
def execBit3H (s : State) : Out := .next (testBit 3 (.reg .h) s)

/-- BIT 3,L (R340). -/
def execBit3L (s : State) : Out := .next (testBit 3 (.reg .l) s)

/-- BIT 3,(HL) (R341). -/
def execBit3AtHL (s : State) : Out := .next (testBit 3 .atHL s)

/-- BIT 3,A (R340). -/
def execBit3A (s : State) : Out := .next (testBit 3 (.reg .a) s)

/-- BIT 4,B (R340). -/
def execBit4B (s : State) : Out := .next (testBit 4 (.reg .b) s)

/-- BIT 4,C (R340). -/
def execBit4C (s : State) : Out := .next (testBit 4 (.reg .c) s)

/-- BIT 4,D (R340). -/
def execBit4D (s : State) : Out := .next (testBit 4 (.reg .d) s)

/-- BIT 4,E (R340). -/
def execBit4E (s : State) : Out := .next (testBit 4 (.reg .e) s)

/-- BIT 4,H (R340). -/
def execBit4H (s : State) : Out := .next (testBit 4 (.reg .h) s)

/-- BIT 4,L (R340). -/
def execBit4L (s : State) : Out := .next (testBit 4 (.reg .l) s)

/-- BIT 4,(HL) (R341). -/
def execBit4AtHL (s : State) : Out := .next (testBit 4 .atHL s)

/-- BIT 4,A (R340). -/
def execBit4A (s : State) : Out := .next (testBit 4 (.reg .a) s)

/-- BIT 5,B (R340). -/
def execBit5B (s : State) : Out := .next (testBit 5 (.reg .b) s)

/-- BIT 5,C (R340). -/
def execBit5C (s : State) : Out := .next (testBit 5 (.reg .c) s)

/-- BIT 5,D (R340). -/
def execBit5D (s : State) : Out := .next (testBit 5 (.reg .d) s)

/-- BIT 5,E (R340). -/
def execBit5E (s : State) : Out := .next (testBit 5 (.reg .e) s)

/-- BIT 5,H (R340). -/
def execBit5H (s : State) : Out := .next (testBit 5 (.reg .h) s)

/-- BIT 5,L (R340). -/
def execBit5L (s : State) : Out := .next (testBit 5 (.reg .l) s)

/-- BIT 5,(HL) (R341). -/
def execBit5AtHL (s : State) : Out := .next (testBit 5 .atHL s)

/-- BIT 5,A (R340). -/
def execBit5A (s : State) : Out := .next (testBit 5 (.reg .a) s)

/-- BIT 6,B (R340). -/
def execBit6B (s : State) : Out := .next (testBit 6 (.reg .b) s)

/-- BIT 6,C (R340). -/
def execBit6C (s : State) : Out := .next (testBit 6 (.reg .c) s)

/-- BIT 6,D (R340). -/
def execBit6D (s : State) : Out := .next (testBit 6 (.reg .d) s)

/-- BIT 6,E (R340). -/
def execBit6E (s : State) : Out := .next (testBit 6 (.reg .e) s)

/-- BIT 6,H (R340). -/
def execBit6H (s : State) : Out := .next (testBit 6 (.reg .h) s)

/-- BIT 6,L (R340). -/
def execBit6L (s : State) : Out := .next (testBit 6 (.reg .l) s)

/-- BIT 6,(HL) (R341). -/
def execBit6AtHL (s : State) : Out := .next (testBit 6 .atHL s)

/-- BIT 6,A (R340). -/
def execBit6A (s : State) : Out := .next (testBit 6 (.reg .a) s)

/-- BIT 7,B (R340). -/
def execBit7B (s : State) : Out := .next (testBit 7 (.reg .b) s)

/-- BIT 7,C (R340). -/
def execBit7C (s : State) : Out := .next (testBit 7 (.reg .c) s)

/-- BIT 7,D (R340). -/
def execBit7D (s : State) : Out := .next (testBit 7 (.reg .d) s)

/-- BIT 7,E (R340). -/
def execBit7E (s : State) : Out := .next (testBit 7 (.reg .e) s)

/-- BIT 7,H (R340). -/
def execBit7H (s : State) : Out := .next (testBit 7 (.reg .h) s)

/-- BIT 7,L (R340). -/
def execBit7L (s : State) : Out := .next (testBit 7 (.reg .l) s)

/-- BIT 7,(HL) (R341). -/
def execBit7AtHL (s : State) : Out := .next (testBit 7 .atHL s)

/-- BIT 7,A (R340). -/
def execBit7A (s : State) : Out := .next (testBit 7 (.reg .a) s)

/-- RES 0,B (R342). -/
def execRes0B (s : State) : Out := .next (clearBit 0 (.reg .b) s)

/-- RES 0,C (R342). -/
def execRes0C (s : State) : Out := .next (clearBit 0 (.reg .c) s)

/-- RES 0,D (R342). -/
def execRes0D (s : State) : Out := .next (clearBit 0 (.reg .d) s)

/-- RES 0,E (R342). -/
def execRes0E (s : State) : Out := .next (clearBit 0 (.reg .e) s)

/-- RES 0,H (R342). -/
def execRes0H (s : State) : Out := .next (clearBit 0 (.reg .h) s)

/-- RES 0,L (R342). -/
def execRes0L (s : State) : Out := .next (clearBit 0 (.reg .l) s)

/-- RES 0,(HL) (R343). -/
def execRes0AtHL (s : State) : Out := .next (clearBit 0 .atHL s)

/-- RES 0,A (R342). -/
def execRes0A (s : State) : Out := .next (clearBit 0 (.reg .a) s)

/-- RES 1,B (R342). -/
def execRes1B (s : State) : Out := .next (clearBit 1 (.reg .b) s)

/-- RES 1,C (R342). -/
def execRes1C (s : State) : Out := .next (clearBit 1 (.reg .c) s)

/-- RES 1,D (R342). -/
def execRes1D (s : State) : Out := .next (clearBit 1 (.reg .d) s)

/-- RES 1,E (R342). -/
def execRes1E (s : State) : Out := .next (clearBit 1 (.reg .e) s)

/-- RES 1,H (R342). -/
def execRes1H (s : State) : Out := .next (clearBit 1 (.reg .h) s)

/-- RES 1,L (R342). -/
def execRes1L (s : State) : Out := .next (clearBit 1 (.reg .l) s)

/-- RES 1,(HL) (R343). -/
def execRes1AtHL (s : State) : Out := .next (clearBit 1 .atHL s)

/-- RES 1,A (R342). -/
def execRes1A (s : State) : Out := .next (clearBit 1 (.reg .a) s)

/-- RES 2,B (R342). -/
def execRes2B (s : State) : Out := .next (clearBit 2 (.reg .b) s)

/-- RES 2,C (R342). -/
def execRes2C (s : State) : Out := .next (clearBit 2 (.reg .c) s)

/-- RES 2,D (R342). -/
def execRes2D (s : State) : Out := .next (clearBit 2 (.reg .d) s)

/-- RES 2,E (R342). -/
def execRes2E (s : State) : Out := .next (clearBit 2 (.reg .e) s)

/-- RES 2,H (R342). -/
def execRes2H (s : State) : Out := .next (clearBit 2 (.reg .h) s)

/-- RES 2,L (R342). -/
def execRes2L (s : State) : Out := .next (clearBit 2 (.reg .l) s)

/-- RES 2,(HL) (R343). -/
def execRes2AtHL (s : State) : Out := .next (clearBit 2 .atHL s)

/-- RES 2,A (R342). -/
def execRes2A (s : State) : Out := .next (clearBit 2 (.reg .a) s)

/-- RES 3,B (R342). -/
def execRes3B (s : State) : Out := .next (clearBit 3 (.reg .b) s)

/-- RES 3,C (R342). -/
def execRes3C (s : State) : Out := .next (clearBit 3 (.reg .c) s)

/-- RES 3,D (R342). -/
def execRes3D (s : State) : Out := .next (clearBit 3 (.reg .d) s)

/-- RES 3,E (R342). -/
def execRes3E (s : State) : Out := .next (clearBit 3 (.reg .e) s)

/-- RES 3,H (R342). -/
def execRes3H (s : State) : Out := .next (clearBit 3 (.reg .h) s)

/-- RES 3,L (R342). -/
def execRes3L (s : State) : Out := .next (clearBit 3 (.reg .l) s)

/-- RES 3,(HL) (R343). -/
def execRes3AtHL (s : State) : Out := .next (clearBit 3 .atHL s)

/-- RES 3,A (R342). -/
def execRes3A (s : State) : Out := .next (clearBit 3 (.reg .a) s)

/-- RES 4,B (R342). -/
def execRes4B (s : State) : Out := .next (clearBit 4 (.reg .b) s)

/-- RES 4,C (R342). -/
def execRes4C (s : State) : Out := .next (clearBit 4 (.reg .c) s)

/-- RES 4,D (R342). -/
def execRes4D (s : State) : Out := .next (clearBit 4 (.reg .d) s)

/-- RES 4,E (R342). -/
def execRes4E (s : State) : Out := .next (clearBit 4 (.reg .e) s)

/-- RES 4,H (R342). -/
def execRes4H (s : State) : Out := .next (clearBit 4 (.reg .h) s)

/-- RES 4,L (R342). -/
def execRes4L (s : State) : Out := .next (clearBit 4 (.reg .l) s)

/-- RES 4,(HL) (R343). -/
def execRes4AtHL (s : State) : Out := .next (clearBit 4 .atHL s)

/-- RES 4,A (R342). -/
def execRes4A (s : State) : Out := .next (clearBit 4 (.reg .a) s)

/-- RES 5,B (R342). -/
def execRes5B (s : State) : Out := .next (clearBit 5 (.reg .b) s)

/-- RES 5,C (R342). -/
def execRes5C (s : State) : Out := .next (clearBit 5 (.reg .c) s)

/-- RES 5,D (R342). -/
def execRes5D (s : State) : Out := .next (clearBit 5 (.reg .d) s)

/-- RES 5,E (R342). -/
def execRes5E (s : State) : Out := .next (clearBit 5 (.reg .e) s)

/-- RES 5,H (R342). -/
def execRes5H (s : State) : Out := .next (clearBit 5 (.reg .h) s)

/-- RES 5,L (R342). -/
def execRes5L (s : State) : Out := .next (clearBit 5 (.reg .l) s)

/-- RES 5,(HL) (R343). -/
def execRes5AtHL (s : State) : Out := .next (clearBit 5 .atHL s)

/-- RES 5,A (R342). -/
def execRes5A (s : State) : Out := .next (clearBit 5 (.reg .a) s)

/-- RES 6,B (R342). -/
def execRes6B (s : State) : Out := .next (clearBit 6 (.reg .b) s)

/-- RES 6,C (R342). -/
def execRes6C (s : State) : Out := .next (clearBit 6 (.reg .c) s)

/-- RES 6,D (R342). -/
def execRes6D (s : State) : Out := .next (clearBit 6 (.reg .d) s)

/-- RES 6,E (R342). -/
def execRes6E (s : State) : Out := .next (clearBit 6 (.reg .e) s)

/-- RES 6,H (R342). -/
def execRes6H (s : State) : Out := .next (clearBit 6 (.reg .h) s)

/-- RES 6,L (R342). -/
def execRes6L (s : State) : Out := .next (clearBit 6 (.reg .l) s)

/-- RES 6,(HL) (R343). -/
def execRes6AtHL (s : State) : Out := .next (clearBit 6 .atHL s)

/-- RES 6,A (R342). -/
def execRes6A (s : State) : Out := .next (clearBit 6 (.reg .a) s)

/-- RES 7,B (R342). -/
def execRes7B (s : State) : Out := .next (clearBit 7 (.reg .b) s)

/-- RES 7,C (R342). -/
def execRes7C (s : State) : Out := .next (clearBit 7 (.reg .c) s)

/-- RES 7,D (R342). -/
def execRes7D (s : State) : Out := .next (clearBit 7 (.reg .d) s)

/-- RES 7,E (R342). -/
def execRes7E (s : State) : Out := .next (clearBit 7 (.reg .e) s)

/-- RES 7,H (R342). -/
def execRes7H (s : State) : Out := .next (clearBit 7 (.reg .h) s)

/-- RES 7,L (R342). -/
def execRes7L (s : State) : Out := .next (clearBit 7 (.reg .l) s)

/-- RES 7,(HL) (R343). -/
def execRes7AtHL (s : State) : Out := .next (clearBit 7 .atHL s)

/-- RES 7,A (R342). -/
def execRes7A (s : State) : Out := .next (clearBit 7 (.reg .a) s)

/-- SET 0,B (R344). -/
def execSet0B (s : State) : Out := .next (setBitOf 0 (.reg .b) s)

/-- SET 0,C (R344). -/
def execSet0C (s : State) : Out := .next (setBitOf 0 (.reg .c) s)

/-- SET 0,D (R344). -/
def execSet0D (s : State) : Out := .next (setBitOf 0 (.reg .d) s)

/-- SET 0,E (R344). -/
def execSet0E (s : State) : Out := .next (setBitOf 0 (.reg .e) s)

/-- SET 0,H (R344). -/
def execSet0H (s : State) : Out := .next (setBitOf 0 (.reg .h) s)

/-- SET 0,L (R344). -/
def execSet0L (s : State) : Out := .next (setBitOf 0 (.reg .l) s)

/-- SET 0,(HL) (R345). -/
def execSet0AtHL (s : State) : Out := .next (setBitOf 0 .atHL s)

/-- SET 0,A (R344). -/
def execSet0A (s : State) : Out := .next (setBitOf 0 (.reg .a) s)

/-- SET 1,B (R344). -/
def execSet1B (s : State) : Out := .next (setBitOf 1 (.reg .b) s)

/-- SET 1,C (R344). -/
def execSet1C (s : State) : Out := .next (setBitOf 1 (.reg .c) s)

/-- SET 1,D (R344). -/
def execSet1D (s : State) : Out := .next (setBitOf 1 (.reg .d) s)

/-- SET 1,E (R344). -/
def execSet1E (s : State) : Out := .next (setBitOf 1 (.reg .e) s)

/-- SET 1,H (R344). -/
def execSet1H (s : State) : Out := .next (setBitOf 1 (.reg .h) s)

/-- SET 1,L (R344). -/
def execSet1L (s : State) : Out := .next (setBitOf 1 (.reg .l) s)

/-- SET 1,(HL) (R345). -/
def execSet1AtHL (s : State) : Out := .next (setBitOf 1 .atHL s)

/-- SET 1,A (R344). -/
def execSet1A (s : State) : Out := .next (setBitOf 1 (.reg .a) s)

/-- SET 2,B (R344). -/
def execSet2B (s : State) : Out := .next (setBitOf 2 (.reg .b) s)

/-- SET 2,C (R344). -/
def execSet2C (s : State) : Out := .next (setBitOf 2 (.reg .c) s)

/-- SET 2,D (R344). -/
def execSet2D (s : State) : Out := .next (setBitOf 2 (.reg .d) s)

/-- SET 2,E (R344). -/
def execSet2E (s : State) : Out := .next (setBitOf 2 (.reg .e) s)

/-- SET 2,H (R344). -/
def execSet2H (s : State) : Out := .next (setBitOf 2 (.reg .h) s)

/-- SET 2,L (R344). -/
def execSet2L (s : State) : Out := .next (setBitOf 2 (.reg .l) s)

/-- SET 2,(HL) (R345). -/
def execSet2AtHL (s : State) : Out := .next (setBitOf 2 .atHL s)

/-- SET 2,A (R344). -/
def execSet2A (s : State) : Out := .next (setBitOf 2 (.reg .a) s)

/-- SET 3,B (R344). -/
def execSet3B (s : State) : Out := .next (setBitOf 3 (.reg .b) s)

/-- SET 3,C (R344). -/
def execSet3C (s : State) : Out := .next (setBitOf 3 (.reg .c) s)

/-- SET 3,D (R344). -/
def execSet3D (s : State) : Out := .next (setBitOf 3 (.reg .d) s)

/-- SET 3,E (R344). -/
def execSet3E (s : State) : Out := .next (setBitOf 3 (.reg .e) s)

/-- SET 3,H (R344). -/
def execSet3H (s : State) : Out := .next (setBitOf 3 (.reg .h) s)

/-- SET 3,L (R344). -/
def execSet3L (s : State) : Out := .next (setBitOf 3 (.reg .l) s)

/-- SET 3,(HL) (R345). -/
def execSet3AtHL (s : State) : Out := .next (setBitOf 3 .atHL s)

/-- SET 3,A (R344). -/
def execSet3A (s : State) : Out := .next (setBitOf 3 (.reg .a) s)

/-- SET 4,B (R344). -/
def execSet4B (s : State) : Out := .next (setBitOf 4 (.reg .b) s)

/-- SET 4,C (R344). -/
def execSet4C (s : State) : Out := .next (setBitOf 4 (.reg .c) s)

/-- SET 4,D (R344). -/
def execSet4D (s : State) : Out := .next (setBitOf 4 (.reg .d) s)

/-- SET 4,E (R344). -/
def execSet4E (s : State) : Out := .next (setBitOf 4 (.reg .e) s)

/-- SET 4,H (R344). -/
def execSet4H (s : State) : Out := .next (setBitOf 4 (.reg .h) s)

/-- SET 4,L (R344). -/
def execSet4L (s : State) : Out := .next (setBitOf 4 (.reg .l) s)

/-- SET 4,(HL) (R345). -/
def execSet4AtHL (s : State) : Out := .next (setBitOf 4 .atHL s)

/-- SET 4,A (R344). -/
def execSet4A (s : State) : Out := .next (setBitOf 4 (.reg .a) s)

/-- SET 5,B (R344). -/
def execSet5B (s : State) : Out := .next (setBitOf 5 (.reg .b) s)

/-- SET 5,C (R344). -/
def execSet5C (s : State) : Out := .next (setBitOf 5 (.reg .c) s)

/-- SET 5,D (R344). -/
def execSet5D (s : State) : Out := .next (setBitOf 5 (.reg .d) s)

/-- SET 5,E (R344). -/
def execSet5E (s : State) : Out := .next (setBitOf 5 (.reg .e) s)

/-- SET 5,H (R344). -/
def execSet5H (s : State) : Out := .next (setBitOf 5 (.reg .h) s)

/-- SET 5,L (R344). -/
def execSet5L (s : State) : Out := .next (setBitOf 5 (.reg .l) s)

/-- SET 5,(HL) (R345). -/
def execSet5AtHL (s : State) : Out := .next (setBitOf 5 .atHL s)

/-- SET 5,A (R344). -/
def execSet5A (s : State) : Out := .next (setBitOf 5 (.reg .a) s)

/-- SET 6,B (R344). -/
def execSet6B (s : State) : Out := .next (setBitOf 6 (.reg .b) s)

/-- SET 6,C (R344). -/
def execSet6C (s : State) : Out := .next (setBitOf 6 (.reg .c) s)

/-- SET 6,D (R344). -/
def execSet6D (s : State) : Out := .next (setBitOf 6 (.reg .d) s)

/-- SET 6,E (R344). -/
def execSet6E (s : State) : Out := .next (setBitOf 6 (.reg .e) s)

/-- SET 6,H (R344). -/
def execSet6H (s : State) : Out := .next (setBitOf 6 (.reg .h) s)

/-- SET 6,L (R344). -/
def execSet6L (s : State) : Out := .next (setBitOf 6 (.reg .l) s)

/-- SET 6,(HL) (R345). -/
def execSet6AtHL (s : State) : Out := .next (setBitOf 6 .atHL s)

/-- SET 6,A (R344). -/
def execSet6A (s : State) : Out := .next (setBitOf 6 (.reg .a) s)

/-- SET 7,B (R344). -/
def execSet7B (s : State) : Out := .next (setBitOf 7 (.reg .b) s)

/-- SET 7,C (R344). -/
def execSet7C (s : State) : Out := .next (setBitOf 7 (.reg .c) s)

/-- SET 7,D (R344). -/
def execSet7D (s : State) : Out := .next (setBitOf 7 (.reg .d) s)

/-- SET 7,E (R344). -/
def execSet7E (s : State) : Out := .next (setBitOf 7 (.reg .e) s)

/-- SET 7,H (R344). -/
def execSet7H (s : State) : Out := .next (setBitOf 7 (.reg .h) s)

/-- SET 7,L (R344). -/
def execSet7L (s : State) : Out := .next (setBitOf 7 (.reg .l) s)

/-- SET 7,(HL) (R345). -/
def execSet7AtHL (s : State) : Out := .next (setBitOf 7 .atHL s)

/-- SET 7,A (R344). -/
def execSet7A (s : State) : Out := .next (setBitOf 7 (.reg .a) s)

end Sys2Proof.Machine
end

