-- ==== Sys2Proof/Machine/Control.lean ====
section
/-! DEFINITION. Jumps, calls, returns and restarts (46_control.md, R350 to R360). None writes F; a taken conditional form adds its
surcharge to the step's cycles (R177). PC is already past the instruction. -/

namespace Sys2Proof.Machine

/-- JP cc,a16 (R351). -/
def jumpIf (k : Cond) (a : Word) (s : State) : State :=
  if s.cpu.cond k then (s.setPc a).addCycles 4 else s

/-- JR e8: the offset is from the address after the instruction (R353). -/
def jumpRelative (e : Byte) (s : State) : State := s.setPc (s.cpu.pc + sext16 e)

/-- JR cc,e8 (R354). -/
def jumpRelativeIf (k : Cond) (e : Byte) (s : State) : State :=
  if s.cpu.cond k then (jumpRelative e s).addCycles 4 else s

/-- CALL cc,a16 (R356): not taken, nothing is pushed. -/
def callIf (k : Cond) (a : Word) (s : State) : State :=
  if s.cpu.cond k then (s.call a).addCycles 12 else s

/-- RET cc (R358): not taken, nothing is popped. -/
def returnIf (k : Cond) (s : State) : State :=
  if s.cpu.cond k then s.ret.addCycles 12 else s

/-- RST t: push the address after the instruction and go to `y * 8` (R360). -/
def restart (y : Fin 8) (s : State) : State := s.call (BitVec.ofNat 16 (y.val * 8))

/-- JR e8 (R353). -/
def execJrE8 (e8 : Byte) (s : State) : Out := .next (jumpRelative e8 s)

/-- JR NZ,e8 (R354). -/
def execJrNZE8 (e8 : Byte) (s : State) : Out := .next (jumpRelativeIf .nz e8 s)

/-- JR Z,e8 (R354). -/
def execJrZE8 (e8 : Byte) (s : State) : Out := .next (jumpRelativeIf .z e8 s)

/-- JR NC,e8 (R354). -/
def execJrNCE8 (e8 : Byte) (s : State) : Out := .next (jumpRelativeIf .nc e8 s)

/-- JR C,e8 (R354). -/
def execJrCE8 (e8 : Byte) (s : State) : Out := .next (jumpRelativeIf .c e8 s)

/-- RET NZ (R358). -/
def execRetNZ (s : State) : Out := .next (returnIf .nz s)

/-- JP NZ,a16 (R351). -/
def execJpNZA16 (a16 : Word) (s : State) : Out := .next (jumpIf .nz a16 s)

/-- JP a16 (R350). -/
def execJpA16 (a16 : Word) (s : State) : Out := .next (s.setPc a16)

/-- CALL NZ,a16 (R356). -/
def execCallNZA16 (a16 : Word) (s : State) : Out := .next (callIf .nz a16 s)

/-- RST 00H (R360). -/
def execRst00 (s : State) : Out := .next (restart 0 s)

/-- RET Z (R358). -/
def execRetZ (s : State) : Out := .next (returnIf .z s)

/-- RET (R357). -/
def execRet (s : State) : Out := .next (s.ret)

/-- JP Z,a16 (R351). -/
def execJpZA16 (a16 : Word) (s : State) : Out := .next (jumpIf .z a16 s)

/-- CALL Z,a16 (R356). -/
def execCallZA16 (a16 : Word) (s : State) : Out := .next (callIf .z a16 s)

/-- CALL a16 (R355). -/
def execCallA16 (a16 : Word) (s : State) : Out := .next (s.call a16)

/-- RST 08H (R360). -/
def execRst08 (s : State) : Out := .next (restart 1 s)

/-- RET NC (R358). -/
def execRetNC (s : State) : Out := .next (returnIf .nc s)

/-- JP NC,a16 (R351). -/
def execJpNCA16 (a16 : Word) (s : State) : Out := .next (jumpIf .nc a16 s)

/-- CALL NC,a16 (R356). -/
def execCallNCA16 (a16 : Word) (s : State) : Out := .next (callIf .nc a16 s)

/-- RST 10H (R360). -/
def execRst10 (s : State) : Out := .next (restart 2 s)

/-- RET C (R358). -/
def execRetC (s : State) : Out := .next (returnIf .c s)

/-- RETI (R359). -/
def execReti (s : State) : Out := .next (s.returnFromInterrupt)

/-- JP C,a16 (R351). -/
def execJpCA16 (a16 : Word) (s : State) : Out := .next (jumpIf .c a16 s)

/-- CALL C,a16 (R356). -/
def execCallCA16 (a16 : Word) (s : State) : Out := .next (callIf .c a16 s)

/-- RST 18H (R360). -/
def execRst18 (s : State) : Out := .next (restart 3 s)

/-- RST 20H (R360). -/
def execRst20 (s : State) : Out := .next (restart 4 s)

/-- JP HL (R352). -/
def execJpHL (s : State) : Out := .next (s.setPc s.cpu.hl)

/-- RST 28H (R360). -/
def execRst28 (s : State) : Out := .next (restart 5 s)

/-- RST 30H (R360). -/
def execRst30 (s : State) : Out := .next (restart 6 s)

/-- RST 38H (R360). -/
def execRst38 (s : State) : Out := .next (restart 7 s)

end Sys2Proof.Machine
end

