-- ==== Sys2Proof/Machine/Load16.lean ====
section
/-! DEFINITION. The 16-bit loads and the stack instructions (42_load16_stack.md, R261 to R267). -/

namespace Sys2Proof.Machine

/-- LD rr,d16 (R261). -/
def ldPair (p : Pair) (v : Word) (s : State) : State := s.mapCpu (fun c => c.setPair p v)

/-- LD (a16),SP: the low byte at a16, then the high byte at a16 + 1 modulo 2^16 (R262). -/
def storeSP (a : Word) (s : State) : State := (s.busWrite a (loByte s.cpu.sp)).busWrite (a + 1) (hiByte s.cpu.sp)

/-- LD SP,HL (R263). -/
def ldSPFromHL (s : State) : State := s.mapCpu (fun c => { c with sp := c.hl })

/-- LD HL,SP+e8 (R264): SP is not changed. -/
def ldHLFromSP (e : Byte) (s : State) : State :=
  s.mapCpu (fun c => (c.setHL (addspValue c.sp e)).setZNHC (addspFlags c.sp e))

/-- PUSH rr (R265). -/
def push (p : StackPair) (s : State) : State := s.push16 (s.cpu.stackPair p)

/-- POP rr and POP AF (R266, R267). -/
def pop (p : StackPair) (s : State) : State := s.afterPop16.mapCpu (fun c => c.setStackPair p s.pop16)

/-- LD BC,d16 (R261). -/
def execLdBCD16 (d16 : Word) (s : State) : Out := .next (ldPair .bc d16 s)

/-- LD (a16),SP (R262). -/
def execLdAtA16SP (a16 : Word) (s : State) : Out := .next (storeSP a16 s)

/-- LD DE,d16 (R261). -/
def execLdDED16 (d16 : Word) (s : State) : Out := .next (ldPair .de d16 s)

/-- LD HL,d16 (R261). -/
def execLdHLD16 (d16 : Word) (s : State) : Out := .next (ldPair .hl d16 s)

/-- LD SP,d16 (R261). -/
def execLdSPD16 (d16 : Word) (s : State) : Out := .next (ldPair .sp d16 s)

/-- POP BC (R266). -/
def execPopBC (s : State) : Out := .next (pop .bc s)

/-- PUSH BC (R265). -/
def execPushBC (s : State) : Out := .next (push .bc s)

/-- POP DE (R266). -/
def execPopDE (s : State) : Out := .next (pop .de s)

/-- PUSH DE (R265). -/
def execPushDE (s : State) : Out := .next (push .de s)

/-- POP HL (R266). -/
def execPopHL (s : State) : Out := .next (pop .hl s)

/-- PUSH HL (R265). -/
def execPushHL (s : State) : Out := .next (push .hl s)

/-- POP AF (R267). -/
def execPopAF (s : State) : Out := .next (pop .af s)

/-- PUSH AF (R265). -/
def execPushAF (s : State) : Out := .next (push .af s)

/-- LD HL,SP+e8 (R264). -/
def execLdHLSPE8 (e8 : Byte) (s : State) : Out := .next (ldHLFromSP e8 s)

/-- LD SP,HL (R263). -/
def execLdSPHL (s : State) : Out := .next (ldSPFromHL s)

end Sys2Proof.Machine
end

