-- ==== Sys2Proof/Machine/Load8.lean ====
section
/-! DEFINITION. The 8-bit loads (41_load8.md, R230 to R248). No load writes F. PC is already past the instruction (R24). -/

namespace Sys2Proof.Machine

/-- LD r,r' (R230). -/
def ldReg (dst r : Reg8) (s : State) : State := s.mapCpu (fun c => c.setReg dst (c.reg r))

/-- LD r,d8 (R231). -/
def ldImm (dst : Reg8) (v : Byte) (s : State) : State := s.mapCpu (fun c => c.setReg dst v)

/-- LD r,(HL) (R232): the read uses the old HL. -/
def ldFromHL (dst : Reg8) (s : State) : State :=
  (s.noteRead s.cpu.hl).mapCpu (fun c => c.setReg dst (s.busRead s.cpu.hl))

/-- LD (HL),r (R233). -/
def ldToHL (r : Reg8) (s : State) : State := s.busWrite s.cpu.hl (s.cpu.reg r)

/-- LD (HL),d8 (R234). -/
def ldToHLImm (v : Byte) (s : State) : State := s.busWrite s.cpu.hl v

/-- `A <- MemRead(a, 1)` (R235, R236, R239, R241, R243, R247, R248). -/
def loadA (a : Word) (s : State) : State := (s.noteRead a).mapCpu (fun c => { c with a := s.busRead a })

/-- `MemWrite(a, 1, A)` (R237, R238, R240, R242, R244, R245, R246). -/
def storeA (a : Word) (s : State) : State := s.busWrite a s.cpu.a

/-- `HL <- (HL + k) mod 2^16`, after the access (R245 to R248). -/
def stepHL (k : Word) (s : State) : State := s.mapCpu (fun c => c.setHL (c.hl + k))

/-- LD (BC),A (R237). -/
def execLdAtBCA (s : State) : Out := .next (storeA s.cpu.bc s)

/-- LD B,d8 (R231). -/
def execLdBD8 (d8 : Byte) (s : State) : Out := .next (ldImm .b d8 s)

/-- LD A,(BC) (R235). -/
def execLdAAtBC (s : State) : Out := .next (loadA s.cpu.bc s)

/-- LD C,d8 (R231). -/
def execLdCD8 (d8 : Byte) (s : State) : Out := .next (ldImm .c d8 s)

/-- LD (DE),A (R238). -/
def execLdAtDEA (s : State) : Out := .next (storeA s.cpu.de s)

/-- LD D,d8 (R231). -/
def execLdDD8 (d8 : Byte) (s : State) : Out := .next (ldImm .d d8 s)

/-- LD A,(DE) (R236). -/
def execLdAAtDE (s : State) : Out := .next (loadA s.cpu.de s)

/-- LD E,d8 (R231). -/
def execLdED8 (d8 : Byte) (s : State) : Out := .next (ldImm .e d8 s)

/-- LD (HL+),A (R245). -/
def execLdAtHLIncA (s : State) : Out := .next (stepHL 1 (storeA s.cpu.hl s))

/-- LD H,d8 (R231). -/
def execLdHD8 (d8 : Byte) (s : State) : Out := .next (ldImm .h d8 s)

/-- LD A,(HL+) (R247). -/
def execLdAAtHLInc (s : State) : Out := .next (stepHL 1 (loadA s.cpu.hl s))

/-- LD L,d8 (R231). -/
def execLdLD8 (d8 : Byte) (s : State) : Out := .next (ldImm .l d8 s)

/-- LD (HL-),A (R246). -/
def execLdAtHLDecA (s : State) : Out := .next (stepHL (-1) (storeA s.cpu.hl s))

/-- LD (HL),d8 (R234). -/
def execLdAtHLD8 (d8 : Byte) (s : State) : Out := .next (ldToHLImm d8 s)

/-- LD A,(HL-) (R248). -/
def execLdAAtHLDec (s : State) : Out := .next (stepHL (-1) (loadA s.cpu.hl s))

/-- LD A,d8 (R231). -/
def execLdAD8 (d8 : Byte) (s : State) : Out := .next (ldImm .a d8 s)

/-- LD B,B (R230). -/
def execLdBB (s : State) : Out := .next (ldReg .b .b s)

/-- LD B,C (R230). -/
def execLdBC (s : State) : Out := .next (ldReg .b .c s)

/-- LD B,D (R230). -/
def execLdBD (s : State) : Out := .next (ldReg .b .d s)

/-- LD B,E (R230). -/
def execLdBE (s : State) : Out := .next (ldReg .b .e s)

/-- LD B,H (R230). -/
def execLdBH (s : State) : Out := .next (ldReg .b .h s)

/-- LD B,L (R230). -/
def execLdBL (s : State) : Out := .next (ldReg .b .l s)

/-- LD B,(HL) (R232). -/
def execLdBAtHL (s : State) : Out := .next (ldFromHL .b s)

/-- LD B,A (R230). -/
def execLdBA (s : State) : Out := .next (ldReg .b .a s)

/-- LD C,B (R230). -/
def execLdCB (s : State) : Out := .next (ldReg .c .b s)

/-- LD C,C (R230). -/
def execLdCC (s : State) : Out := .next (ldReg .c .c s)

/-- LD C,D (R230). -/
def execLdCD (s : State) : Out := .next (ldReg .c .d s)

/-- LD C,E (R230). -/
def execLdCE (s : State) : Out := .next (ldReg .c .e s)

/-- LD C,H (R230). -/
def execLdCH (s : State) : Out := .next (ldReg .c .h s)

/-- LD C,L (R230). -/
def execLdCL (s : State) : Out := .next (ldReg .c .l s)

/-- LD C,(HL) (R232). -/
def execLdCAtHL (s : State) : Out := .next (ldFromHL .c s)

/-- LD C,A (R230). -/
def execLdCA (s : State) : Out := .next (ldReg .c .a s)

/-- LD D,B (R230). -/
def execLdDB (s : State) : Out := .next (ldReg .d .b s)

/-- LD D,C (R230). -/
def execLdDC (s : State) : Out := .next (ldReg .d .c s)

/-- LD D,D (R230). -/
def execLdDD (s : State) : Out := .next (ldReg .d .d s)

/-- LD D,E (R230). -/
def execLdDE (s : State) : Out := .next (ldReg .d .e s)

/-- LD D,H (R230). -/
def execLdDH (s : State) : Out := .next (ldReg .d .h s)

/-- LD D,L (R230). -/
def execLdDL (s : State) : Out := .next (ldReg .d .l s)

/-- LD D,(HL) (R232). -/
def execLdDAtHL (s : State) : Out := .next (ldFromHL .d s)

/-- LD D,A (R230). -/
def execLdDA (s : State) : Out := .next (ldReg .d .a s)

/-- LD E,B (R230). -/
def execLdEB (s : State) : Out := .next (ldReg .e .b s)

/-- LD E,C (R230). -/
def execLdEC (s : State) : Out := .next (ldReg .e .c s)

/-- LD E,D (R230). -/
def execLdED (s : State) : Out := .next (ldReg .e .d s)

/-- LD E,E (R230). -/
def execLdEE (s : State) : Out := .next (ldReg .e .e s)

/-- LD E,H (R230). -/
def execLdEH (s : State) : Out := .next (ldReg .e .h s)

/-- LD E,L (R230). -/
def execLdEL (s : State) : Out := .next (ldReg .e .l s)

/-- LD E,(HL) (R232). -/
def execLdEAtHL (s : State) : Out := .next (ldFromHL .e s)

/-- LD E,A (R230). -/
def execLdEA (s : State) : Out := .next (ldReg .e .a s)

/-- LD H,B (R230). -/
def execLdHB (s : State) : Out := .next (ldReg .h .b s)

/-- LD H,C (R230). -/
def execLdHC (s : State) : Out := .next (ldReg .h .c s)

/-- LD H,D (R230). -/
def execLdHD (s : State) : Out := .next (ldReg .h .d s)

/-- LD H,E (R230). -/
def execLdHE (s : State) : Out := .next (ldReg .h .e s)

/-- LD H,H (R230). -/
def execLdHH (s : State) : Out := .next (ldReg .h .h s)

/-- LD H,L (R230). -/
def execLdHL (s : State) : Out := .next (ldReg .h .l s)

/-- LD H,(HL) (R232). -/
def execLdHAtHL (s : State) : Out := .next (ldFromHL .h s)

/-- LD H,A (R230). -/
def execLdHA (s : State) : Out := .next (ldReg .h .a s)

/-- LD L,B (R230). -/
def execLdLB (s : State) : Out := .next (ldReg .l .b s)

/-- LD L,C (R230). -/
def execLdLC (s : State) : Out := .next (ldReg .l .c s)

/-- LD L,D (R230). -/
def execLdLD (s : State) : Out := .next (ldReg .l .d s)

/-- LD L,E (R230). -/
def execLdLE (s : State) : Out := .next (ldReg .l .e s)

/-- LD L,H (R230). -/
def execLdLH (s : State) : Out := .next (ldReg .l .h s)

/-- LD L,L (R230). -/
def execLdLL (s : State) : Out := .next (ldReg .l .l s)

/-- LD L,(HL) (R232). -/
def execLdLAtHL (s : State) : Out := .next (ldFromHL .l s)

/-- LD L,A (R230). -/
def execLdLA (s : State) : Out := .next (ldReg .l .a s)

/-- LD (HL),B (R233). -/
def execLdAtHLB (s : State) : Out := .next (ldToHL .b s)

/-- LD (HL),C (R233). -/
def execLdAtHLC (s : State) : Out := .next (ldToHL .c s)

/-- LD (HL),D (R233). -/
def execLdAtHLD (s : State) : Out := .next (ldToHL .d s)

/-- LD (HL),E (R233). -/
def execLdAtHLE (s : State) : Out := .next (ldToHL .e s)

/-- LD (HL),H (R233). -/
def execLdAtHLH (s : State) : Out := .next (ldToHL .h s)

/-- LD (HL),L (R233). -/
def execLdAtHLL (s : State) : Out := .next (ldToHL .l s)

/-- LD (HL),A (R233). -/
def execLdAtHLA (s : State) : Out := .next (ldToHL .a s)

/-- LD A,B (R230). -/
def execLdAB (s : State) : Out := .next (ldReg .a .b s)

/-- LD A,C (R230). -/
def execLdAC (s : State) : Out := .next (ldReg .a .c s)

/-- LD A,D (R230). -/
def execLdAD (s : State) : Out := .next (ldReg .a .d s)

/-- LD A,E (R230). -/
def execLdAE (s : State) : Out := .next (ldReg .a .e s)

/-- LD A,H (R230). -/
def execLdAH (s : State) : Out := .next (ldReg .a .h s)

/-- LD A,L (R230). -/
def execLdAL (s : State) : Out := .next (ldReg .a .l s)

/-- LD A,(HL) (R232). -/
def execLdAAtHL (s : State) : Out := .next (ldFromHL .a s)

/-- LD A,A (R230). -/
def execLdAA (s : State) : Out := .next (ldReg .a .a s)

/-- LDH (a8),A (R242). -/
def execLdhAtA8A (a8 : Byte) (s : State) : Out := .next (storeA (ioPage a8) s)

/-- LD (C),A (R244). -/
def execLdAtCA (s : State) : Out := .next (storeA (ioPage s.cpu.c) s)

/-- LD (a16),A (R240). -/
def execLdAtA16A (a16 : Word) (s : State) : Out := .next (storeA a16 s)

/-- LDH A,(a8) (R241). -/
def execLdhAAtA8 (a8 : Byte) (s : State) : Out := .next (loadA (ioPage a8) s)

/-- LD A,(C) (R243). -/
def execLdAAtC (s : State) : Out := .next (loadA (ioPage s.cpu.c) s)

/-- LD A,(a16) (R239). -/
def execLdAAtA16 (a16 : Word) (s : State) : Out := .next (loadA a16 s)

end Sys2Proof.Machine
end

