-- ==== Sys2Proof/Machine/System.lean ====
section
/-! DEFINITION. The system and control instructions and the unrecognized opcodes (47_system.md, R370 to R375). -/

namespace Sys2Proof.Machine

/-- NOP (R370). -/
def noOp (s : State) : State := s

/-- An unrecognized opcode: a 1-byte no-op (R170, R375; C10). -/
def illegalNoOp (s : State) : State := s

/-- STOP: the CPU stops, or, in color mode with the switch armed, the speed changes and it runs on (R371; D11, D56). The discarded byte
has been fetched. -/
def stopCpu (s : State) : State :=
  if s.color && s.speed.armed then
    { s.mapEngine (fun g => { g with stopped := false }) with
      speed := { doubleSpeed := !s.speed.doubleSpeed, armed := false } }
  else s.mapEngine (fun g => { g with stopped := true })

/-- HALT (R372). -/
def haltCpu (s : State) : State := s.mapEngine (fun g => { g with halted := true })

/-- DI: at once, and it cancels a pending EI (R373; D13). -/
def disableInterrupts (s : State) : State := s.mapEngine (fun g => { g with ime := false, imeEnabling := false })

/-- EI: the delayed enable; `ime` is not written (R374). -/
def enableInterrupts (s : State) : State := s.mapEngine (fun g => { g with imeEnabling := true })

/-- NOP (R370). -/
def execNop (s : State) : Out := .next (noOp s)

/-- STOP (R371). -/
def execStop (_ignored : Byte) (s : State) : Out := .next (stopCpu s)

/-- HALT (R372). -/
def execHalt (s : State) : Out := .next (haltCpu s)

/-- Unrecognized byte 0xD3 (R375). -/
def execIllegalD3 (s : State) : Out := .next (illegalNoOp s)

/-- Unrecognized byte 0xDB (R375). -/
def execIllegalDB (s : State) : Out := .next (illegalNoOp s)

/-- Unrecognized byte 0xDD (R375). -/
def execIllegalDD (s : State) : Out := .next (illegalNoOp s)

/-- Unrecognized byte 0xE3 (R375). -/
def execIllegalE3 (s : State) : Out := .next (illegalNoOp s)

/-- Unrecognized byte 0xE4 (R375). -/
def execIllegalE4 (s : State) : Out := .next (illegalNoOp s)

/-- Unrecognized byte 0xEB (R375). -/
def execIllegalEB (s : State) : Out := .next (illegalNoOp s)

/-- Unrecognized byte 0xEC (R375). -/
def execIllegalEC (s : State) : Out := .next (illegalNoOp s)

/-- Unrecognized byte 0xED (R375). -/
def execIllegalED (s : State) : Out := .next (illegalNoOp s)

/-- DI (R373). -/
def execDi (s : State) : Out := .next (disableInterrupts s)

/-- Unrecognized byte 0xF4 (R375). -/
def execIllegalF4 (s : State) : Out := .next (illegalNoOp s)

/-- EI (R374). -/
def execEi (s : State) : Out := .next (enableInterrupts s)

/-- Unrecognized byte 0xFC (R375). -/
def execIllegalFC (s : State) : Out := .next (illegalNoOp s)

/-- Unrecognized byte 0xFD (R375). -/
def execIllegalFD (s : State) : Out := .next (illegalNoOp s)

end Sys2Proof.Machine
end

