-- ==== Sys2Proof/Machine/Phases.lean ====
section
/-! DEFINITION. Fetching an instruction, and the phases of a step after it executes: the timer phase, the interrupt phase and the
accounting (30_encoding.md section 6; 60_exceptions.md R403, R411 to R415). -/

namespace Sys2Proof.Machine

/-! ## Fetch -/

/-- The fetch of one instruction: its bytes one by one through the bus, PC past the last of them (R161, R171, R175). -/
def State.fetchInstr (s : State) : Instr × State :=
  let s1 := s.afterFetch
  let s2 := s1.afterFetch
  match mainEntry s.fetchByte with
  | .op i => (i, s1)
  | .imm8 g => (g s1.fetchByte, s2)
  | .imm16 g => (g (join s2.fetchByte s1.fetchByte), s2.afterFetch)
  | .cb => (cbEntry s1.fetchByte, s2)

/-! ## The timer phase -/

/-- `DivTick(c)` (R411): the loop subtracts DIV_PERIOD as often as it goes into the accumulated cycles, and DIV counts each time. -/
def State.divTick (s : State) (c : Nat) : State :=
  let acc := s.timer.divAcc + c
  { s.setIo 0x04 (s.ioByte 0x04 + BitVec.ofNat 8 (acc / s.params.divPeriod)) with
    timer := { s.timer with divAcc := acc % s.params.divPeriod } }

/-- The cycles of a threshold (R28, R413). -/
def Threshold.cycles : Threshold → Nat
  | .t1024 => 1024
  | .t16 => 16
  | .t64 => 64
  | .t256 => 256

/-- One increment of TIMA: on overflow the reload from TMA and the Timer request (R412). -/
def State.timaIncrement (s : State) : State :=
  if s.ioByte 0x05 = 0xFF then (s.setIo 0x05 (s.ioByte 0x06)).request .timer
  else s.setIo 0x05 (s.ioByte 0x05 + 1)

/-- `n` increments of TIMA. -/
def State.timaIncrements : Nat → State → State
  | 0, s => s
  | n + 1, s => State.timaIncrements n s.timaIncrement

/-- `TimaTick(c)` (R412): with TAC bit 2 set, the loop subtracts the threshold as often as it goes into the accumulated cycles, and TIMA
counts each time. With it clear `timer_acc` keeps its value. -/
def State.timaTick (s : State) (c : Nat) : State :=
  if (s.ioByte 0x07).getLsbD 2 then
    let acc := s.timer.timerAcc + c
    let th := s.timer.threshold.cycles
    State.timaIncrements (acc / th) { s with timer := { s.timer with timerAcc := acc % th } }
  else s

/-- `TimerTick(c)` (R412). -/
def State.timerTick (s : State) (c : Nat) : State := (s.divTick c).timaTick c

/-! ## The interrupt phase -/

/-- `InterruptPhase()` (R403): the state after it, and the cycles it charges. -/
def State.interruptPhase (s : State) : State × Nat :=
  if s.engine.stopped then
    if s.ifByte.getLsbD 4 then (s.mapEngine (fun g => { g with stopped := false }), 0) else (s, 0)
  else if s.engine.imeEnabling then
    (s.mapEngine (fun g => { g with ime := true, imeEnabling := false }), 0)
  else if (s.engine.ime || s.engine.halted) && s.ifByte != 0 then
    match s.pendingSource with
    | none => (s, 0)
    | some n =>
      if s.engine.halted && !s.engine.ime then (s.mapEngine (fun g => { g with halted := false }), 0)
      else (s.takeInterrupt n, s.params.intDispatchCycles)
  else (s, 0)

/-! ## The accounting -/

/-- `AdvanceClock(n)` (R415), and the total the step reports (R175). -/
def State.advanceClock (s : State) (n : Nat) : State :=
  s.mapEngine (fun g => { g with clockT := g.clockT + n, clockM := (g.clockT + n) / 4, cycles := n })

/-- What a step does after its execute phase, whose cost stands in `engine.cycles`: the timer phase, the interrupt phase, the dispatch's
cycles to the timer, the accounting (R175; D9). -/
def State.finishStep (s : State) : State :=
  let c := s.engine.cycles
  let p := (s.timerTick c).interruptPhase
  let t := if p.2 > 0 then p.1.timerTick p.2 else p.1
  t.advanceClock (c + p.2)

/-- Whether the execute phase of a step fetches and runs an instruction: not stopped, and not halted with nothing pending (R175; D10). -/
def State.runsInstruction (s : State) : Bool :=
  !s.engine.stopped && !(s.engine.halted && !s.anyPending)

/-- The execute phase of a waiting step: the stopped or the halted quantum (R175, R474). -/
def State.waitQuantum (s : State) : State :=
  s.setCycles (if s.engine.stopped then s.params.stopQuantum else haltQuantum)

/-- The state in which the fetched instruction executes: PC past it, its base cost fixed (R175, R177). -/
def State.readyFor (s : State) (i : Instr) : State := s.setCycles (baseCycles s.params i)

/-! ## Placing an instruction from outside -/

/-- Store a byte where a read of the bus address finds it, as a loader outside the machine would: into the ROM array through the current
bank, or through the bus for RAM (log entry 7). -/
def State.placeByte (s : State) (a : Word) (v : Byte) : State :=
  if a.toNat ≤ 0x7FFF then
    let i := s.cart.romIndex a.toNat
    { s with rom := s.rom.set romFill i v, romLen := max s.romLen (i + 1) }
  else s.busWrite a v

/-- Three bytes stored from PC on. -/
def State.placeAtPc (s : State) (b0 b1 b2 : Byte) : State :=
  ((s.placeByte s.cpu.pc b0).placeByte (s.cpu.pc + 1) b1).placeByte (s.cpu.pc + 2) b2

/-- Whether the three bytes from PC on read as given, none of them a draw. -/
def State.holdsAtPc (s : State) (b0 b1 b2 : Byte) : Bool :=
  !s.isDraw s.cpu.pc && !s.isDraw (s.cpu.pc + 1) && !s.isDraw (s.cpu.pc + 2) &&
  s.busRead s.cpu.pc == b0 && s.busRead (s.cpu.pc + 1) == b1 && s.busRead (s.cpu.pc + 2) == b2

/-- Place three bytes where the next fetch finds them, in a state that runs: at PC where a store is a plain store (ROM, VRAM, WRAM, OAM,
high RAM), else, where no byte can be placed at PC, at the start of WRAM with PC moved there (log entry 7). -/
def State.placeProgram (s : State) (b0 b1 b2 : Byte) : State :=
  let r := s.mapEngine (fun g => { g with halted := false, stopped := false })
  let plainAt (a : Word) : Bool :=
    decide (a.toNat ≤ 0x9FFF) || (decide (0xC000 ≤ a.toNat) && decide (a.toNat ≤ 0xDFFF)) ||
    (decide (0xFE00 ≤ a.toNat) && decide (a.toNat ≤ 0xFE9F)) || (decide (0xFF80 ≤ a.toNat) && decide (a.toNat ≤ 0xFFFE))
  let t := r.placeAtPc b0 b1 b2
  if plainAt r.cpu.pc && plainAt (r.cpu.pc + 1) && plainAt (r.cpu.pc + 2) && t.holdsAtPc b0 b1 b2 then t
  else (r.setPc 0xC000).placeAtPc b0 b1 b2

end Sys2Proof.Machine
end

