-- ==== Sys2Proof/Machine/Step.lean ====
section
/-! DEFINITION. One step of the block (R175, R176): the execute phase, then the timer phase, the interrupt phase and the accounting. -/

namespace Sys2Proof.Machine

/-- `Step()` (R175). A waiting CPU takes its quantum; otherwise the instruction at PC is fetched and executed; then the phases of
`State.finishStep`. -/
def step (s : State) : Host.Outcome State Fault Refusal :=
  if s.runsInstruction then
    match exec s.fetchInstr.1 (s.fetchInstr.2.readyFor s.fetchInstr.1) with
    | .next t => .next t.finishStep
    | .fault r => .fault r
    | .refused r => .refused r
  else .next s.waitQuantum.finishStep

/-- The state with the instruction of an opcode-table word placed where the next step fetches it (log entries 3 and 7). -/
def State.withFetchWord (s : State) (nbits w : Nat) : State :=
  match tableBytes nbits w with
  | [b0, b1, b2] => s.placeProgram b0 b1 b2
  | _ => s

end Sys2Proof.Machine
end

