-- ==== Sys2Proof/Machine/HostActions.lean ====
section
/-! DEFINITION. What the host does to the block between steps (R407), and a run of the block under a host. -/

namespace Sys2Proof.Machine

/-- The host's actions of R407, each atomic with respect to steps. (`Step()` is `step`; `pause` changes no state.) -/
inductive HostAction where
  /-- PPU scanline update: LY to any value. -/
  | ppuLy (v : Byte)
  /-- PPU scanline update: STAT bits 6:0 to any value; bit 7 keeps its value. -/
  | ppuStat (v : Byte)
  /-- PPU interrupt: `request(0)`. -/
  | requestVblank
  /-- PPU interrupt: `request(1)`. -/
  | requestLcdStat
  /-- The per-scanline HBlank tick. -/
  | hblankTick
  /-- Input: the pressed mask. -/
  | setButtons (mask : Byte)
  /-- Input: `request(4)`. -/
  | requestJoypad
  /-- Serial: `request(3)`. -/
  | requestSerial
  /-- The clock crystal of MBC3: the live clock registers advance to any value. -/
  | rtcAdvance (live : Rtc)
  /-- `load_save_data(blob)`. -/
  | loadSave (blob : List Byte)
  /-- Load ROM: discards all state of the block and performs the launch. What is the host's stays: the pressed mask, the palette writes
  it has not taken, and the count of draws, which stay fresh (log entries 1 and 10). -/
  | loadRom (L : LaunchInput)
  /-- The palette collaborator takes the port writes it was passed. -/
  | takePaletteWrites
  /-- Pause. -/
  | pause
deriving DecidableEq, Repr

/-- The effect of a host action on the block (R407). -/
def State.hostAct (s : State) : HostAction → State
  | .ppuLy v => s.setIo 0x44 v
  | .ppuStat v => s.setIo 0x41 ((s.ioByte 0x41 &&& 0x80) ||| (v &&& 0x7F))
  | .requestVblank => s.request .vblank
  | .requestLcdStat => s.request .lcdStat
  | .hblankTick => s.hblankTick
  | .setButtons mask => { s with buttons := mask }
  | .requestJoypad => s.request .joypad
  | .requestSerial => s.request .serial
  | .rtcAdvance live =>
    match s.cart with
    | .mbc3 r => { s with cart := .mbc3 { r with live := live } }
    | .plainRom | .mbc1 _ | .mbc2 _ | .mbc5 _ => s
  | .loadSave blob => s.loadSaveData blob
  | .loadRom L => { State.launch L with buttons := s.buttons, paletteOut := s.paletteOut, draws := s.draws }
  | .takePaletteWrites => { s with paletteOut := [] }
  | .pause => s

/-- What happens to the block next: a step, or a host action between steps (R176, R407). -/
inductive Event where
  | step
  | host (a : HostAction)
deriving DecidableEq, Repr

/-- One event. -/
def runEvent (s : State) : Event → Out
  | .step => step s
  | .host a => .next (s.hostAct a)

/-- A run: the events one after another, stopping at the first step that gives no next state (R407: any sequence of host actions is a
legal environment). -/
def runEvents : List Event → State → Out
  | [], s => .next s
  | e :: es, s =>
    match runEvent s e with
    | .next t => runEvents es t
    | .fault r => .fault r
    | .refused r => .refused r

end Sys2Proof.Machine
end

