-- ==== Sys2Proof/Safety.lean ====
section
/-! DEFINITION. What every state of a run satisfies: the invariants the spec states of single pieces of state, and legality as their
conjunction; then the terms the claims are stated in. -/

namespace Sys2Proof.Machine

/-- The low nibble of F is 0 (R22). -/
def State.flagsMasked (s : State) : Bool := s.cpu.f &&& 0x0F == 0

/-- Every byte array is in canonical form and inside its size (R30 to R33, R57, R114). -/
def State.memoryWf (s : State) : Bool :=
  Memory.wf ramFill 0x4000 s.vram && Memory.wf ramFill 0x8000 s.wram && Memory.wf ramFill 0xA0 s.oam &&
  Memory.wf ramFill 0x100 s.io && Memory.wf romFill s.romLen s.rom && Memory.wf ramFill s.eramSize s.eram

/-- The timer's hidden state agrees with its registers: the accumulators are below their periods and the threshold is the one TAC selects
(R28). -/
def State.timerWf (s : State) : Bool :=
  decide (s.timer.divAcc < s.params.divPeriod) && decide (s.timer.timerAcc < s.timer.threshold.cycles) &&
  decide (s.timer.threshold = thresholdOf (s.ioByte 0x07))

/-- WRAM bank 0 is never selected at 0xD000 (R31, R76), and in monochrome mode the bank, speed and HDMA state never leave their launch
values (R30, R107). -/
def State.banksWf (s : State) : Bool :=
  decide (s.wramBank ≠ 0) &&
  (s.color || (decide (s.vramBank = 0) && decide (s.wramBank = 1) && decide (s.speed = Speed.launch) &&
    decide (s.hdma = Hdma.launch)))

/-- The HDMA state is coherent: at most 128 blocks, block-aligned addresses with the destination in the VRAM window, and while a transfer
is active HDMA5 holds the number of blocks left less one, bit 7 clear (R34, R88). -/
def State.hdmaWf (s : State) : Bool :=
  decide (s.hdma.len ≤ 128) && (s.hdma.src &&& 0x000F == 0) && (s.hdma.dst &&& 0x000F == 0) &&
  decide (0x8000 ≤ s.hdma.dst.toNat) && decide (s.hdma.dst.toNat < 0xA000) &&
  (!s.hdma.active ||
    (s.color && decide (0 < s.hdma.len) && decide (s.ioByte 0x55 = BitVec.ofNat 8 (s.hdma.len - 1))))

/-- The two cycle clocks agree (R415). -/
def State.clockWf (s : State) : Bool := decide (s.engine.clockM = s.engine.clockT / 4)

/-- STAT reads with its top bit set (R42, R67, R95). -/
def State.statWf (s : State) : Bool := (s.ioByte 0x41).getLsbD 7

/-- The external RAM of MBC2 is its 512 cells (R59, R112). -/
def State.cartWf (s : State) : Bool := decide (s.cart.variant = .mbc2 → s.eramSize = 512)

/-- A legal state: the parameters are legal and every invariant above holds. -/
def State.legal (s : State) : Bool :=
  s.params.wf && s.flagsMasked && s.memoryWf && s.timerWf && s.banksWf && s.hdmaWf && s.clockWf && s.statWf && s.cartWf

/-- The load-time configuration of R69 and the ROM: what no step changes. -/
def State.sameConfig (s t : State) : Prop :=
  t.rom = s.rom ∧ t.romLen = s.romLen ∧ t.color = s.color ∧ t.eramSize = s.eramSize ∧ t.params = s.params ∧
  t.cart.variant = s.cart.variant

/-! ## Terms of the claims -/

/-- The four flags of F, and its low nibble 0, as one number (R22, R200). -/
def FlagsAre (f : Byte) (z n h c : Bool) : Prop :=
  f.toNat = 128 * z.toNat + 64 * n.toNat + 32 * h.toNat + 16 * c.toNat

/-- The state after `n` fetches of one byte (R161). -/
def State.fetchN : Nat → State → State
  | 0, s => s
  | n + 1, s => State.fetchN n s.afterFetch

/-- The bytes that `n` fetches give (R161). -/
def State.fetchBytes : Nat → State → List Byte
  | 0, _ => []
  | n + 1, s => s.fetchByte :: State.fetchBytes n s.afterFetch

/-- A cell of plain storage: a store changes that cell alone and a read gives what was stored (R73, R75, R76, R78, R80). The I/O ports
with a read or write rule of their own are left out. -/
def State.plainCell (s : State) (a : Word) : Bool :=
  let n := a.toNat
  (decide (0x8000 ≤ n) && decide (n ≤ 0x9FFF)) || (decide (0xC000 ≤ n) && decide (n ≤ 0xDFFF)) ||
  (decide (0xFE00 ≤ n) && decide (n ≤ 0xFE9F)) ||
  (decide (0xFF00 ≤ n) && decide (ioPort s.color (n - 0xFF00) = .plain))

/-- Whether address `b` shows the plain cell at `a`: it is `a`, or, in Mirror mode, the echo of `a` (R77). -/
def State.shows (s : State) (a b : Word) : Bool :=
  decide (b = a) ||
  (decide (s.params.echoMode = .mirror) && decide (0xE000 ≤ b.toNat) && decide (b.toNat ≤ 0xFDFF) &&
    decide (b.toNat = a.toNat + 0x2000))

/-- The byte arrays of the bus that a plain cell can lie in (R30 to R33). -/
inductive RamArray where
  | vram
  | wram
  | oam
  | io
deriving DecidableEq, Repr

/-- The byte an array holds at an offset, in a selected bank or not. -/
def State.ramByte (s : State) : RamArray → Nat → Byte
  | .vram, k => s.vram.get ramFill k
  | .wram, k => s.wram.get ramFill k
  | .oam, k => s.oam.get ramFill k
  | .io, k => s.io.get ramFill k

/-- The array and the offset in it that a plain cell is (R73, R75, R76, R78, R80). -/
def State.plainIndex (s : State) (a : Word) : RamArray × Nat :=
  let n := a.toNat
  if n ≤ 0x9FFF then (.vram, s.vramIndex n)
  else if n ≤ 0xDFFF then (.wram, s.wramIndex n)
  else if n ≤ 0xFE9F then (.oam, n - 0xFE00)
  else (.io, n - 0xFF00)

/-- Where the second operand of an ALU operation comes from (43_alu8.md): its three forms. -/
inductive AluSource where
  | reg (r : Reg8)
  | atHL
  | imm (v : Byte)
deriving DecidableEq, Repr

/-- The instruction of an operation and a form. -/
def AluSource.instr (o : AluOp) : AluSource → Instr
  | .reg r => .aluReg o r
  | .atHL => .aluHL o
  | .imm v => .aluImm o v

/-- The operand's value. -/
def AluSource.value (s : State) : AluSource → Byte
  | .reg r => s.cpu.reg r
  | .atHL => s.busRead s.cpu.hl
  | .imm v => v

/-- The state after the operand is read: a read changes no state but the draw counter (R81). -/
def AluSource.after (s : State) : AluSource → State
  | .reg _ => s
  | .atHL => s.noteRead s.cpu.hl
  | .imm _ => s

/-- The loads of one byte from memory (R232, R235, R236, R239, R241, R243, R247, R248). -/
inductive LoadForm where
  | fromHL (r : Reg8)
  | fromBC
  | fromDE
  | fromA16 (a : Word)
  | fromA8 (n : Byte)
  | fromC
  | fromHLInc
  | fromHLDec
deriving DecidableEq, Repr

/-- The instruction of a load. -/
def LoadForm.instr : LoadForm → Instr
  | .fromHL r => .ldFromHL r
  | .fromBC => .ldAAtBC
  | .fromDE => .ldAAtDE
  | .fromA16 a => .ldAAtA16 a
  | .fromA8 n => .ldhAAtA8 n
  | .fromC => .ldAAtC
  | .fromHLInc => .ldAAtHLInc
  | .fromHLDec => .ldAAtHLDec

/-- The address a load reads. -/
def LoadForm.addr (s : State) : LoadForm → Word
  | .fromHL _ => s.cpu.hl
  | .fromBC => s.cpu.bc
  | .fromDE => s.cpu.de
  | .fromA16 a => a
  | .fromA8 n => BitVec.ofNat 16 (0xFF00 + n.toNat)
  | .fromC => BitVec.ofNat 16 (0xFF00 + s.cpu.c.toNat)
  | .fromHLInc => s.cpu.hl
  | .fromHLDec => s.cpu.hl

/-- The register a load writes. -/
def LoadForm.dest : LoadForm → Reg8
  | .fromHL r => r
  | .fromBC | .fromDE | .fromA16 _ | .fromA8 _ | .fromC | .fromHLInc | .fromHLDec => .a

/-- What a load leaves in HL before its destination is written. -/
def LoadForm.hlAfter (s : State) : LoadForm → Word
  | .fromHLInc => s.cpu.hl + 1
  | .fromHLDec => s.cpu.hl - 1
  | .fromHL _ | .fromBC | .fromDE | .fromA16 _ | .fromA8 _ | .fromC => s.cpu.hl

/-- The stores of one byte to memory (R233, R234, R237, R238, R240, R242, R244, R245, R246). -/
inductive StoreForm where
  | toHL (r : Reg8)
  | toHLImm (v : Byte)
  | toBC
  | toDE
  | toA16 (a : Word)
  | toA8 (n : Byte)
  | toC
  | toHLInc
  | toHLDec
deriving DecidableEq, Repr

/-- The instruction of a store. -/
def StoreForm.instr : StoreForm → Instr
  | .toHL r => .ldToHL r
  | .toHLImm v => .ldAtHLD8 v
  | .toBC => .ldAtBCA
  | .toDE => .ldAtDEA
  | .toA16 a => .ldAtA16A a
  | .toA8 n => .ldhAtA8A n
  | .toC => .ldAtCA
  | .toHLInc => .ldAtHLIncA
  | .toHLDec => .ldAtHLDecA

/-- The address a store writes. -/
def StoreForm.addr (s : State) : StoreForm → Word
  | .toHL _ => s.cpu.hl
  | .toHLImm _ => s.cpu.hl
  | .toBC => s.cpu.bc
  | .toDE => s.cpu.de
  | .toA16 a => a
  | .toA8 n => BitVec.ofNat 16 (0xFF00 + n.toNat)
  | .toC => BitVec.ofNat 16 (0xFF00 + s.cpu.c.toNat)
  | .toHLInc => s.cpu.hl
  | .toHLDec => s.cpu.hl

/-- The byte a store writes. -/
def StoreForm.value (s : State) : StoreForm → Byte
  | .toHL r => s.cpu.reg r
  | .toHLImm v => v
  | .toBC | .toDE | .toA16 _ | .toA8 _ | .toC | .toHLInc | .toHLDec => s.cpu.a

/-- What a store leaves in HL. -/
def StoreForm.hlAfter (s : State) : StoreForm → Word
  | .toHLInc => s.cpu.hl + 1
  | .toHLDec => s.cpu.hl - 1
  | .toHL _ | .toHLImm _ | .toBC | .toDE | .toA16 _ | .toA8 _ | .toC => s.cpu.hl

/-- The instructions that read an operand, compute and write it back (R304 to R307, R324 to R339, R342 to R345). -/
inductive ModifyOp where
  | inc
  | dec
  | rot (o : RotOp)
  | res (b : Fin 8)
  | set (b : Fin 8)
deriving DecidableEq, Repr

/-- The instruction of a modification on an operand. -/
def ModifyOp.instr : ModifyOp → Operand8 → Instr
  | .inc, .reg r => .incReg r
  | .inc, .atHL => .incAtHL
  | .dec, .reg r => .decReg r
  | .dec, .atHL => .decAtHL
  | .rot o, .reg r => .rotReg o r
  | .rot o, .atHL => .rotHL o
  | .res b, .reg r => .resReg b r
  | .res b, .atHL => .resHL b
  | .set b, .reg r => .setReg b r
  | .set b, .atHL => .setHL b

/-- What a rotate, shift or swap does, by bits and numbers: `v` and the carry-in `cin` give the result `r` and the carry-out `co`
(R212 to R219). -/
def RotSpec (v : Byte) (cin : Bool) (r : Byte) (co : Bool) : RotOp → Prop
  | .rlc => (∀ k < 8, r.getLsbD k = v.getLsbD ((k + 7) % 8)) ∧ co = v.getLsbD 7
  | .rrc => (∀ k < 8, r.getLsbD k = v.getLsbD ((k + 1) % 8)) ∧ co = v.getLsbD 0
  | .rl => r.toNat = (2 * v.toNat + cin.toNat) % 256 ∧ co = decide (128 ≤ v.toNat)
  | .rr => r.toNat = v.toNat / 2 + 128 * cin.toNat ∧ co = decide (v.toNat % 2 = 1)
  | .sla => r.toNat = 2 * v.toNat % 256 ∧ co = decide (128 ≤ v.toNat)
  | .sra => r.toInt = v.toInt / 2 ∧ co = decide (v.toNat % 2 = 1)
  | .srl => r.toNat = v.toNat / 2 ∧ co = decide (v.toNat % 2 = 1)
  | .swap => r.toNat = 16 * (v.toNat % 16) + v.toNat / 16 ∧ co = false

/-- What a modification does: from the operand `v` and the flags `f`, the result `r` and the flags `f'`. -/
def ModifySpec (v f r f' : Byte) : ModifyOp → Prop
  | .inc => r.toNat = (v.toNat + 1) % 256 ∧ FlagsAre f' (decide (r = 0)) false (decide (v.toNat % 16 = 15)) (f.getLsbD 4)
  | .dec => r.toNat = (v.toNat + 255) % 256 ∧ FlagsAre f' (decide (r = 0)) true (decide (v.toNat % 16 = 0)) (f.getLsbD 4)
  | .rot o => ∃ co, RotSpec v (f.getLsbD 4) r co o ∧ FlagsAre f' (decide (r = 0)) false false co
  | .res b => (∀ k < 8, r.getLsbD k = (v.getLsbD k && decide (k ≠ b.val))) ∧ f' = f
  | .set b => (∀ k < 8, r.getLsbD k = (v.getLsbD k || decide (k = b.val))) ∧ f' = f

end Sys2Proof.Machine
end

