-- ==== Sys2Proof/Certificates/Slice0/Obligations.lean ====
section
/-! DEFINITION. The statements for the provers. A statement about a byte that a read of an open port gives (R83, R89) names no value:
it holds whatever the free value is. Where a statement speaks of a field that is the model's own, that field is the model's choice and no
rule's: the draw counter (log entries 1 and 19), the cycle count of the last step (log entry 5), the pressed mask as last set (log entry
10) and the queue of palette writes (log entry 11). -/

open Sys2Proof Sys2Proof.Machine

/-! ## Encoding and decoding -/

/-- R168: every byte of the main table decodes to its entry, with its operand bytes, and no byte more. -/
def Obligations.MainTableDecodes : Prop :=
  (∀ q r : Reg8, decode [(1#2 ++ q.code ++ r.code : Byte)] = .ok (.ldReg q r, [])) ∧
  (∀ r : Reg8, decode [(1#2 ++ r.code ++ 6#3 : Byte)] = .ok (.ldFromHL r, []) ∧
    decode [(1#2 ++ 6#3 ++ r.code : Byte)] = .ok (.ldToHL r, []) ∧
    decode [(0#2 ++ r.code ++ 4#3 : Byte)] = .ok (.incReg r, []) ∧
    decode [(0#2 ++ r.code ++ 5#3 : Byte)] = .ok (.decReg r, [])) ∧
  (∀ (r : Reg8) (v : Byte), decode [(0#2 ++ r.code ++ 6#3 : Byte), v] = .ok (.ldImm r v, [])) ∧
  (∀ (o : AluOp) (r : Reg8), decode [(2#2 ++ o.code ++ r.code : Byte)] = .ok (.aluReg o r, [])) ∧
  (∀ (o : AluOp) (v : Byte), decode [(2#2 ++ o.code ++ 6#3 : Byte)] = .ok (.aluHL o, []) ∧
    decode [(3#2 ++ o.code ++ 6#3 : Byte), v] = .ok (.aluImm o v, [])) ∧
  (∀ (p : Pair) (lo hi : Byte), decode [(0#2 ++ p.code ++ 1#4 : Byte), lo, hi] = .ok (.ldPair p (hi ++ lo), []) ∧
    decode [(0#2 ++ p.code ++ 3#4 : Byte)] = .ok (.incPair p, []) ∧
    decode [(0#2 ++ p.code ++ 9#4 : Byte)] = .ok (.addHL p, []) ∧
    decode [(0#2 ++ p.code ++ 11#4 : Byte)] = .ok (.decPair p, [])) ∧
  (∀ p : StackPair, decode [(3#2 ++ p.code ++ 1#4 : Byte)] = .ok (.pop p, []) ∧
    decode [(3#2 ++ p.code ++ 5#4 : Byte)] = .ok (.push p, [])) ∧
  (∀ (k : Cond) (lo hi e : Byte), decode [(1#3 ++ k.code ++ 0#3 : Byte), e] = .ok (.jrCond k e, []) ∧
    decode [(6#3 ++ k.code ++ 0#3 : Byte)] = .ok (.retCond k, []) ∧
    decode [(6#3 ++ k.code ++ 2#3 : Byte), lo, hi] = .ok (.jpCond k (hi ++ lo), []) ∧
    decode [(6#3 ++ k.code ++ 4#3 : Byte), lo, hi] = .ok (.callCond k (hi ++ lo), [])) ∧
  (∀ y : Fin 8, decode [(3#2 ++ BitVec.ofFin (w := 3) y ++ 7#3 : Byte)] = .ok (.rst y, [])) ∧
  (∀ lo hi : Byte,
    decode [0x00] = .ok (.nop, []) ∧ decode [0x10, lo] = .ok (.stop lo, []) ∧ decode [0x76] = .ok (.halt, []) ∧
    decode [0xF3] = .ok (.di, []) ∧ decode [0xFB] = .ok (.ei, []) ∧
    decode [0x07] = .ok (.rlca, []) ∧ decode [0x0F] = .ok (.rrca, []) ∧ decode [0x17] = .ok (.rla, []) ∧
    decode [0x1F] = .ok (.rra, []) ∧ decode [0x27] = .ok (.daa, []) ∧ decode [0x2F] = .ok (.cpl, []) ∧
    decode [0x37] = .ok (.scf, []) ∧ decode [0x3F] = .ok (.ccf, []) ∧
    decode [0x34] = .ok (.incAtHL, []) ∧ decode [0x35] = .ok (.decAtHL, []) ∧ decode [0x36, lo] = .ok (.ldAtHLD8 lo, []) ∧
    decode [0x02] = .ok (.ldAtBCA, []) ∧ decode [0x0A] = .ok (.ldAAtBC, []) ∧ decode [0x12] = .ok (.ldAtDEA, []) ∧
    decode [0x1A] = .ok (.ldAAtDE, []) ∧ decode [0x22] = .ok (.ldAtHLIncA, []) ∧ decode [0x2A] = .ok (.ldAAtHLInc, []) ∧
    decode [0x32] = .ok (.ldAtHLDecA, []) ∧ decode [0x3A] = .ok (.ldAAtHLDec, []) ∧
    decode [0x08, lo, hi] = .ok (.ldAtA16SP (hi ++ lo), []) ∧ decode [0x18, lo] = .ok (.jrE8 lo, []) ∧
    decode [0xC3, lo, hi] = .ok (.jpA16 (hi ++ lo), []) ∧ decode [0xC9] = .ok (.ret, []) ∧
    decode [0xCD, lo, hi] = .ok (.callA16 (hi ++ lo), []) ∧ decode [0xD9] = .ok (.reti, []) ∧
    decode [0xE0, lo] = .ok (.ldhAtA8A lo, []) ∧ decode [0xF0, lo] = .ok (.ldhAAtA8 lo, []) ∧
    decode [0xE2] = .ok (.ldAtCA, []) ∧ decode [0xF2] = .ok (.ldAAtC, []) ∧
    decode [0xEA, lo, hi] = .ok (.ldAtA16A (hi ++ lo), []) ∧ decode [0xFA, lo, hi] = .ok (.ldAAtA16 (hi ++ lo), []) ∧
    decode [0xE8, lo] = .ok (.addSPE8 lo, []) ∧ decode [0xF8, lo] = .ok (.ldHLSPE8 lo, []) ∧
    decode [0xE9] = .ok (.jpHL, []) ∧ decode [0xF9] = .ok (.ldSPHL, [])) ∧
  decode [0xD3] = .ok (.illegal .d3, []) ∧ decode [0xDB] = .ok (.illegal .db, []) ∧ decode [0xDD] = .ok (.illegal .dd, []) ∧
  decode [0xE3] = .ok (.illegal .e3, []) ∧ decode [0xE4] = .ok (.illegal .e4, []) ∧ decode [0xEB] = .ok (.illegal .eb, []) ∧
  decode [0xEC] = .ok (.illegal .ec, []) ∧ decode [0xED] = .ok (.illegal .ed, []) ∧ decode [0xF4] = .ok (.illegal .f4, []) ∧
  decode [0xFC] = .ok (.illegal .fc, []) ∧ decode [0xFD] = .ok (.illegal .fd, [])

/-- R169: every byte of the CB table decodes by its fields: the rotate or shift, BIT, RES or SET of `x`, on the operand `r[z]`. -/
def Obligations.CbTableDecodes : Prop :=
  (∀ (o : RotOp) (r : Reg8), decode [0xCB, (0#2 ++ o.code ++ r.code : Byte)] = .ok (.rotReg o r, []) ∧
    decode [0xCB, (0#2 ++ o.code ++ 6#3 : Byte)] = .ok (.rotHL o, [])) ∧
  (∀ (y : Fin 8) (r : Reg8),
    decode [0xCB, (1#2 ++ BitVec.ofFin (w := 3) y ++ r.code : Byte)] = .ok (.bitReg y r, []) ∧
    decode [0xCB, (1#2 ++ BitVec.ofFin (w := 3) y ++ 6#3 : Byte)] = .ok (.bitHL y, []) ∧
    decode [0xCB, (2#2 ++ BitVec.ofFin (w := 3) y ++ r.code : Byte)] = .ok (.resReg y r, []) ∧
    decode [0xCB, (2#2 ++ BitVec.ofFin (w := 3) y ++ 6#3 : Byte)] = .ok (.resHL y, []) ∧
    decode [0xCB, (3#2 ++ BitVec.ofFin (w := 3) y ++ r.code : Byte)] = .ok (.setReg y r, []) ∧
    decode [0xCB, (3#2 ++ BitVec.ofFin (w := 3) y ++ 6#3 : Byte)] = .ok (.setHL y, []))

/-- Decoding an encoded well-formed instruction gives it back, whatever follows it. -/
def Obligations.DecodeOfEncode : Prop :=
  ∀ (i : Instr) (rest : List Byte), i.wellFormed = true → decode (encode i ++ rest) = .ok (i, rest)

/-- R172, R160, R171: decoding is total on three bytes: it takes one to three of them, the first byte alone fixes how many (two after the
0xCB prefix), the instruction read is well formed, and its encoding is the very bytes read, so that each word has one meaning. -/
def Obligations.DecodingIsTotal : Prop :=
  (∀ (b0 b1 b2 : Byte) (rest : List Byte), ∃ i : Instr,
    decode (b0 :: b1 :: b2 :: rest) = .ok (i, (b0 :: b1 :: b2 :: rest).drop i.length) ∧
    1 ≤ i.length ∧ i.length ≤ 3 ∧ (b0 = 0xCB → i.length = 2) ∧
    (∀ (c1 c2 : Byte) (j : Instr) (tail : List Byte), decode [b0, c1, c2] = .ok (j, tail) → j.length = i.length)) ∧
  (∀ (bytes rest : List Byte) (i : Instr), decode bytes = .ok (i, rest) → i.wellFormed = true ∧ encode i ++ rest = bytes)

/-! ## The step -/

/-- A STEP RUNS THE DECODED INSTRUCTION (R175, R161): where the CPU waits for nothing and the bytes that fetches from PC on give decode to
`i`, the step is `exec` of `i` in the state past the instruction's bytes, with its base cost set, then the timer phase, the interrupt
phase and the accounting. -/
def Obligations.StepRunsDecoded : Prop :=
  ∀ (s : State) (i : Instr) (rest : List Byte), s.engine.stopped = false →
    (s.engine.halted = false ∨ s.ifByte &&& s.ieByte &&& 0x1F ≠ 0) →
    decode (s.fetchBytes 3) = .ok (i, rest) →
    step s = match exec i ((s.fetchN i.length).readyFor i) with
      | .next t => .next t.finishStep
      | .fault r => .fault r
      | .refused r => .refused r

/-- R161: `n` fetches advance PC by `n` and change nothing else but the draw counter, and the bytes of ports that are no draw are those the
bus gives in the state before. -/
def Obligations.FetchReadsTheBus : Prop :=
  ∀ (s : State) (n : Nat),
    s.fetchN n = { s with cpu := { s.cpu with pc := s.cpu.pc + BitVec.ofNat 16 n }, draws := (s.fetchN n).draws } ∧
    (s.fetchBytes n).length = n ∧
    (∀ k < n, s.isDraw (s.cpu.pc + BitVec.ofNat 16 k) = false →
      (s.fetchBytes n)[k]? = some (s.busRead (s.cpu.pc + BitVec.ofNat 16 k)))

/-- R175, R410, R474: a stopped CPU, and a halted one with nothing requested and enabled, spend a quantum and run no instruction: the step is
the timer phase, the interrupt phase and the accounting of that quantum. A stopped step dispatches nothing and leaves the stopped state
exactly when IF bit 4 is 1. -/
def Obligations.WaitingStep : Prop :=
  ∀ s : State,
    (s.engine.stopped = false → s.engine.halted = true → s.ifByte &&& s.ieByte &&& 0x1F = 0 →
      step s = .next { s with engine := { s.engine with cycles := 4 } }.finishStep) ∧
    (s.engine.stopped = true → ∃ t : State, step s = .next t ∧
      t = { s with engine := { s.engine with cycles := s.params.stopQuantum } }.finishStep ∧
      t.engine.stopped = !s.ifByte.getLsbD 4 ∧ t.engine.cycles = s.params.stopQuantum ∧ t.cpu = s.cpu ∧
      t.engine.ime = s.engine.ime ∧ t.engine.halted = s.engine.halted ∧ t.engine.imeEnabling = s.engine.imeEnabling ∧
      t.vram = s.vram ∧ t.wram = s.wram ∧ t.oam = s.oam ∧ t.eram = s.eram ∧ t.cart = s.cart)

/-- R400: no instruction traps and no step stops. -/
def Obligations.NothingStops : Prop :=
  (∀ (i : Instr) (s : State), ∃ t, exec i s = .next t) ∧ (∀ s : State, ∃ t, step s = .next t)

/-- R415, R475: the clock advances by exactly what the step reports and counts M-cycles as a quarter of it; under the default parameters
every step reports a whole number of M-cycles, at least one. -/
def Obligations.StepReportsItsCycles : Prop :=
  ∀ s t : State, step s = .next t →
    t.engine.clockT = s.engine.clockT + t.engine.cycles ∧ t.engine.clockM = t.engine.clockT / 4 ∧
    (∀ echo : EchoMode, s.params = defaultParams echo → t.engine.cycles % 4 = 0 ∧ 4 ≤ t.engine.cycles)

/-- R27, R471: no instruction reads the clock: a step does the same from any other clock. -/
def Obligations.ClockIsNotRead : Prop :=
  ∀ (s t : State) (n m k : Nat), step s = .next t →
    step { s with engine := { s.engine with clockT := n, clockM := m, cycles := k } } =
      .next { t with engine := { t.engine with clockT := n + t.engine.cycles, clockM := (n + t.engine.cycles) / 4 } }

/-- R472, R473: the default costs, by family; a conditional form's cost is the not-taken one. -/
def Obligations.DefaultCycleCosts : Prop :=
  ∀ (echo : EchoMode) (i : Instr) (n : Nat),
    ((∃ q r, i = .ldReg q r ∧ n = 4) ∨ (∃ r v, i = .ldImm r v ∧ n = 8) ∨ (∃ r, i = .ldFromHL r ∧ n = 8) ∨
     (∃ r, i = .ldToHL r ∧ n = 8) ∨ (∃ v, i = .ldAtHLD8 v ∧ n = 12) ∨
     (i ∈ [Instr.ldAAtBC, .ldAAtDE, .ldAtBCA, .ldAtDEA, .ldAtHLIncA, .ldAtHLDecA, .ldAAtHLInc, .ldAAtHLDec, .ldAAtC, .ldAtCA,
           .ldSPHL] ∧ n = 8) ∨
     (∃ a, (i = .ldAAtA16 a ∨ i = .ldAtA16A a) ∧ n = 16) ∨ (∃ v, (i = .ldhAAtA8 v ∨ i = .ldhAtA8A v) ∧ n = 12) ∨
     (∃ p v, i = .ldPair p v ∧ n = 12) ∨ (∃ a, i = .ldAtA16SP a ∧ n = 20) ∨ (∃ e, i = .ldHLSPE8 e ∧ n = 12) ∨
     (∃ p, i = .push p ∧ n = 16) ∨ (∃ p, i = .pop p ∧ n = 12) ∨
     (∃ o r, i = .aluReg o r ∧ n = 4) ∨ (∃ o, i = .aluHL o ∧ n = 8) ∨ (∃ o v, i = .aluImm o v ∧ n = 8) ∨
     (∃ r, (i = .incReg r ∨ i = .decReg r) ∧ n = 4) ∨ (i ∈ [Instr.incAtHL, .decAtHL] ∧ n = 12) ∨
     (i ∈ [Instr.daa, .cpl, .scf, .ccf, .rlca, .rla, .rrca, .rra, .nop, .halt, .di, .ei, .jpHL] ∧ n = 4) ∨
     (∃ v, i = .stop v ∧ n = 4) ∨ (∃ x, i = .illegal x ∧ n = 4) ∨
     (∃ p, (i = .addHL p ∨ i = .incPair p ∨ i = .decPair p) ∧ n = 8) ∨ (∃ e, i = .addSPE8 e ∧ n = 16) ∨
     (∃ a, i = .jpA16 a ∧ n = 16) ∨ (∃ k a, i = .jpCond k a ∧ n = 12) ∨ (∃ e, i = .jrE8 e ∧ n = 12) ∨
     (∃ k e, i = .jrCond k e ∧ n = 8) ∨ (∃ a, i = .callA16 a ∧ n = 24) ∨ (∃ k a, i = .callCond k a ∧ n = 12) ∨
     (i ∈ [Instr.ret, .reti] ∧ n = 16) ∨ (∃ k, i = .retCond k ∧ n = 8) ∨ (∃ y, i = .rst y ∧ n = 16) ∨
     (∃ o r, i = .rotReg o r ∧ n = 8) ∨ (∃ o, i = .rotHL o ∧ n = 16) ∨
     (∃ b r, (i = .bitReg b r ∨ i = .resReg b r ∨ i = .setReg b r) ∧ n = 8) ∨ (∃ b, i = .bitHL b ∧ n = 12) ∨
     (∃ b, (i = .resHL b ∨ i = .setHL b) ∧ n = 16)) →
    baseCycles (defaultParams echo) i = n

/-! ## Registers and 8-bit loads -/

/-- R20, R21: the register file. A register or a pair reads what was written to it last and no write of one reaches another; AF, and it
alone, takes a written value through the mask 0xFFF0. -/
def Obligations.RegisterFile : Prop :=
  ∀ c : Cpu,
    (∀ (r q : Reg8) (v : Byte), (c.setReg r v).reg q = (if q = r then v else c.reg q) ∧
      (c.setReg r v).f = c.f ∧ (c.setReg r v).sp = c.sp ∧ (c.setReg r v).pc = c.pc) ∧
    (∀ (p q : Pair) (v : Word), (c.setPair p v).pair q = (if q = p then v else c.pair q) ∧
      (c.setPair p v).a = c.a ∧ (c.setPair p v).f = c.f ∧ (c.setPair p v).pc = c.pc) ∧
    (∀ (p q : StackPair) (v : Word),
      (c.setStackPair p v).stackPair q =
        (if q = p then (if p = .af then v &&& 0xFFF0 else v) else c.stackPair q) ∧
      (c.setStackPair p v).sp = c.sp ∧ (c.setStackPair p v).pc = c.pc)

/-- R230, R231, R261, R263: the loads between registers and from an immediate: the destination takes the value, and nothing else of the
machine changes, no flag among it. -/
def Obligations.RegisterLoads : Prop :=
  ∀ (s : State),
    (∀ q r : Reg8, exec (.ldReg q r) s = .next { s with cpu := s.cpu.setReg q (s.cpu.reg r) }) ∧
    (∀ (q : Reg8) (v : Byte), exec (.ldImm q v) s = .next { s with cpu := s.cpu.setReg q v }) ∧
    (∀ (p : Pair) (v : Word), exec (.ldPair p v) s = .next { s with cpu := s.cpu.setPair p v }) ∧
    exec .ldSPHL s = .next { s with cpu := { s.cpu with sp := s.cpu.h ++ s.cpu.l } }

/-- R232, R235, R236, R239, R241, R243, R247, R248: every load from memory reads one byte at its address into its destination, moves HL
only in its HL+ and HL- forms, and changes nothing else but the draw counter. -/
def Obligations.MemoryLoads : Prop :=
  ∀ (m : LoadForm) (s : State), ∃ n : Nat,
    exec m.instr s = .next { s with
      cpu := { s.cpu with h := (m.hlAfter s).extractLsb' 8 8, l := (m.hlAfter s).extractLsb' 0 8 }.setReg m.dest (s.busRead (m.addr s)),
      draws := n } ∧
    (s.isDraw (m.addr s) = false → n = s.draws)

/-- R233, R234, R237, R238, R240, R242, R244, R245, R246, R262: every store of one byte is one bus write of its value at its address; of
the registers only HL moves, and only in the HL+ and HL- forms. LD (a16),SP writes SP's low byte at a16, then its high byte at a16 + 1
modulo 2^16, and changes nothing else. -/
def Obligations.MemoryStores : Prop :=
  (∀ (m : StoreForm) (s : State),
    exec m.instr s = .next { s.busWrite (m.addr s) (m.value s) with
      cpu := { s.cpu with h := (m.hlAfter s).extractLsb' 8 8, l := (m.hlAfter s).extractLsb' 0 8 } }) ∧
  (∀ (a : Word) (s : State),
    exec (.ldAtA16SP a) s = .next ((s.busWrite a (s.cpu.sp.extractLsb' 0 8)).busWrite (a + 1) (s.cpu.sp.extractLsb' 8 8)))

/-- The frame of the stores: a store to a plain cell changes that one byte of that one array, in the selected bank alone; the address
stored to and its echo show it and every other address reads as before; of the registers HL alone may move, by the form, and the rest of
the machine is unchanged. The two premises on the state, the canonical form of the memory and WRAM bank 0 never selected at 0xD000, hold
in every run (the statement EventsKeepLegal). -/
def Obligations.StoreFrame : Prop :=
  ∀ (m : StoreForm) (s t : State), s.memoryWf = true → s.wramBank ≠ 0 → s.plainCell (m.addr s) = true → exec m.instr s = .next t →
    (∀ b : Word, t.busRead b = if s.shows (m.addr s) b then m.value s else s.busRead b) ∧
    (∀ (r : RamArray) (k : Nat), t.ramByte r k = if (r, k) = s.plainIndex (m.addr s) then m.value s else s.ramByte r k) ∧
    t.cpu = { s.cpu with h := (m.hlAfter s).extractLsb' 8 8, l := (m.hlAfter s).extractLsb' 0 8 } ∧
    t.cpu.f = s.cpu.f ∧ t.cpu.sp = s.cpu.sp ∧ t.cpu.pc = s.cpu.pc ∧ t.engine = s.engine ∧ t.timer = s.timer ∧
    t.speed = s.speed ∧ t.hdma = s.hdma ∧ t.cart = s.cart ∧ t.vramBank = s.vramBank ∧ t.wramBank = s.wramBank ∧
    t.rom = s.rom ∧ t.romLen = s.romLen ∧ t.eram = s.eram ∧ t.eramSize = s.eramSize ∧ t.color = s.color ∧ t.params = s.params ∧
    t.buttons = s.buttons ∧ t.draws = s.draws ∧ t.paletteOut = s.paletteOut

/-! ## 16-bit loads and the stack -/

/-- R209, R264, R318: ADD SP,e8 and LD HL,SP+e8: the result is SP plus the signed offset modulo 2^16, Z and N are 0, and H and C come from
the unsigned low-byte addition whatever the sign of the offset. Nothing else changes. -/
def Obligations.StackPointerOffset : Prop :=
  ∀ (e : Byte) (s : State), ∃ (v : Word) (f : Byte),
    exec (.addSPE8 e) s = .next { s with cpu := { s.cpu with sp := v, f := f } } ∧
    exec (.ldHLSPE8 e) s = .next { s with cpu := { s.cpu with h := v.extractLsb' 8 8, l := v.extractLsb' 0 8, f := f } } ∧
    (v.toNat : Int) = ((s.cpu.sp.toNat : Int) + e.toInt) % 65536 ∧
    FlagsAre f false false (decide (s.cpu.sp.toNat % 16 + e.toNat % 16 > 15)) (decide (s.cpu.sp.toNat % 256 + e.toNat > 255))

/-- R260, R265, R266, R267: PUSH writes the pair's high byte at SP - 1, then its low byte at SP - 2, moves SP there, and changes nothing
else. POP reads the low byte at SP, then the high byte at SP + 1, and moves SP up by 2; into F the low nibble goes as 0; nothing else
changes but the draw counter. -/
def Obligations.PushAndPop : Prop :=
  ∀ (s : State) (p : StackPair),
    (∀ hi lo : Byte,
      (match p with
       | .bc => hi = s.cpu.b ∧ lo = s.cpu.c
       | .de => hi = s.cpu.d ∧ lo = s.cpu.e
       | .hl => hi = s.cpu.h ∧ lo = s.cpu.l
       | .af => hi = s.cpu.a ∧ lo = s.cpu.f) →
      exec (.push p) s = .next { (s.busWrite (s.cpu.sp - 1) hi).busWrite (s.cpu.sp - 2) lo with
        cpu := { s.cpu with sp := s.cpu.sp - 2 } }) ∧
    (∃ n : Nat,
      (let lo := s.busRead s.cpu.sp
       let hi := (s.noteRead s.cpu.sp).busRead (s.cpu.sp + 1)
       exec (.pop p) s = .next { s with
         draws := n,
         cpu := match p with
           | .bc => { s.cpu with b := hi, c := lo, sp := s.cpu.sp + 2 }
           | .de => { s.cpu with d := hi, e := lo, sp := s.cpu.sp + 2 }
           | .hl => { s.cpu with h := hi, l := lo, sp := s.cpu.sp + 2 }
           | .af => { s.cpu with a := hi, f := lo &&& 0xF0, sp := s.cpu.sp + 2 } }) ∧
      (s.isDraw s.cpu.sp = false → s.isDraw (s.cpu.sp + 1) = false → n = s.draws))

/-- What is pushed is what is popped: with the stack slot in plain cells, PUSH of one pair and POP of another moves the first into the
second (through the mask for AF), restores SP, and leaves every cell but the two of the slot as it was, in every bank. -/
def Obligations.PushThenPop : Prop :=
  ∀ (s t u : State) (p q : StackPair), s.memoryWf = true → s.wramBank ≠ 0 → s.plainCell (s.cpu.sp - 1) = true →
    s.plainCell (s.cpu.sp - 2) = true → exec (.push p) s = .next t → exec (.pop q) t = .next u →
    u.cpu = s.cpu.setStackPair q (s.cpu.stackPair p) ∧
    (∀ b : Word, s.shows (s.cpu.sp - 1) b = false → s.shows (s.cpu.sp - 2) b = false → u.busRead b = s.busRead b) ∧
    (∀ (r : RamArray) (k : Nat), (r, k) ≠ s.plainIndex (s.cpu.sp - 1) → (r, k) ≠ s.plainIndex (s.cpu.sp - 2) →
      u.ramByte r k = s.ramByte r k)

/-! ## 8-bit arithmetic and logic -/

/-- R201 in ADD and ADC, all three forms of the operand: the sum with the carry-in modulo 256, Z, N, H and C. Nothing but A and F changes
(a read of memory may move the draw counter). -/
def Obligations.AddAndAdc : Prop :=
  ∀ (src : AluSource) (s : State), ∀ oc ∈ [(AluOp.add, 0), (AluOp.adc, s.cpu.flagC.toNat)], ∃ a f : Byte,
    exec (src.instr oc.1) s = .next { src.after s with cpu := { s.cpu with a := a, f := f } } ∧
    a.toNat = (s.cpu.a.toNat + (src.value s).toNat + oc.2) % 256 ∧
    FlagsAre f (decide (a = 0)) false (decide (s.cpu.a.toNat % 16 + (src.value s).toNat % 16 + oc.2 > 15))
      (decide (s.cpu.a.toNat + (src.value s).toNat + oc.2 > 255))

/-- R202 in SUB and SBC and R206 in CP, all three forms: A is the minuend; the difference modulo 256 (which CP discards), Z, N, H and C.
Nothing but A and F changes. -/
def Obligations.SubSbcAndCp : Prop :=
  ∀ (src : AluSource) (s : State), ∀ oc ∈ [(AluOp.sub, 0), (AluOp.sbc, s.cpu.flagC.toNat), (AluOp.cp, 0)], ∃ r f : Byte,
    exec (src.instr oc.1) s = .next { src.after s with
      cpu := { s.cpu with a := if oc.1 = .cp then s.cpu.a else r, f := f } } ∧
    (r.toNat : Int) = ((s.cpu.a.toNat : Int) - (src.value s).toNat - oc.2) % 256 ∧
    FlagsAre f (decide (r = 0)) true (decide (s.cpu.a.toNat % 16 < (src.value s).toNat % 16 + oc.2))
      (decide (s.cpu.a.toNat < (src.value s).toNat + oc.2))

/-- R203, R204, R205 in AND, OR and XOR, all three forms: the result bit by bit, Z from it, N and C clear, H set by AND alone. Nothing but
A and F changes. -/
def Obligations.AndOrXor : Prop :=
  ∀ (src : AluSource) (s : State), ∀ og ∈ [(AluOp.and, Bool.and, true), (AluOp.or, Bool.or, false), (AluOp.xor, Bool.xor, false)],
    ∃ a f : Byte,
      exec (src.instr og.1) s = .next { src.after s with cpu := { s.cpu with a := a, f := f } } ∧
      (∀ k < 8, a.getLsbD k = og.2.1 (s.cpu.a.getLsbD k) ((src.value s).getLsbD k)) ∧
      FlagsAre f (decide (a = 0)) false og.2.2 false

/-- R224: the properties the source states of the micro-operations, of the instructions that run them: the flags of ADD, the round trip of
SUB then ADD, and the carry flag that DEC leaves. -/
def Obligations.SourceAluProperties : Prop :=
  (∀ (v : Byte) (s t : State), exec (.addAD8 v) s = .next t →
    (t.cpu.flagZ = true ↔ t.cpu.a = 0) ∧ (t.cpu.flagC = true ↔ s.cpu.a.toNat + v.toNat > 255) ∧
    (t.cpu.flagH = true ↔ s.cpu.a.toNat % 16 + v.toNat % 16 > 15)) ∧
  (∀ (v : Byte) (s t u : State), exec (.subD8 v) s = .next t → exec (.addAD8 v) t = .next u → u.cpu.a = s.cpu.a) ∧
  (∀ (r : Reg8) (s t : State), exec (.decReg r) s = .next t → t.cpu.flagC = s.cpu.flagC)

/-- R207, R208, R212 to R219, R304, R306, R324 to R344: INC, DEC, the CB rotates, shifts and SWAP, RES and SET of a register. The register
and F take what the operation gives; nothing else changes. -/
def Obligations.ModifyRegister : Prop :=
  ∀ (m : ModifyOp) (x : Reg8) (s : State), ∃ r f : Byte,
    exec (m.instr (.reg x)) s = .next { s with cpu := { s.cpu.setReg x r with f := f } } ∧
    ModifySpec (s.cpu.reg x) s.cpu.f r f m

/-- R222, R305, R307, R325 to R345: the same operations on the byte at HL: one read, then one write of the result at the same address, then
F. No other register changes. -/
def Obligations.ModifyMemory : Prop :=
  ∀ (m : ModifyOp) (s : State), ∃ r f : Byte,
    exec (m.instr .atHL) s = .next { (s.noteRead s.cpu.hl).busWrite s.cpu.hl r with cpu := { s.cpu with f := f } } ∧
    ModifySpec (s.busRead s.cpu.hl) s.cpu.f r f m

/-- The frame of the operations on the byte at HL: in a plain cell, that one byte of that one array takes the result, in the selected bank
alone; the address and its echo show it and every other address reads as before; F alone changes among the registers, and the rest of the
machine is unchanged. -/
def Obligations.ModifyMemoryFrame : Prop :=
  ∀ (m : ModifyOp) (s t : State), s.memoryWf = true → s.wramBank ≠ 0 → s.plainCell s.cpu.hl = true → exec (m.instr .atHL) s = .next t →
    (∃ r : Byte, ModifySpec (s.busRead s.cpu.hl) s.cpu.f r t.cpu.f m ∧
      (∀ b : Word, t.busRead b = if s.shows s.cpu.hl b then r else s.busRead b) ∧
      (∀ (x : RamArray) (k : Nat), t.ramByte x k = if (x, k) = s.plainIndex s.cpu.hl then r else s.ramByte x k)) ∧
    t.cpu = { s.cpu with f := t.cpu.f } ∧ t.engine = s.engine ∧ t.timer = s.timer ∧ t.speed = s.speed ∧ t.hdma = s.hdma ∧
    t.cart = s.cart ∧ t.vramBank = s.vramBank ∧ t.wramBank = s.wramBank ∧ t.rom = s.rom ∧ t.romLen = s.romLen ∧ t.eram = s.eram ∧
    t.eramSize = s.eramSize ∧ t.color = s.color ∧ t.params = s.params ∧ t.buttons = s.buttons ∧ t.draws = s.draws ∧
    t.paletteOut = s.paletteOut

/-- R211, R308 to R311: the accumulator and flag operations. DAA, both branches, with N unchanged and H cleared; CPL, SCF and CCF. Nothing
but A and F changes. -/
def Obligations.AccumulatorOperations : Prop :=
  ∀ s : State, ∃ r f x cf sf kf : Byte,
    (exec .daa s = .next { s with cpu := { s.cpu with a := r, f := f } } ∧
     (let up := s.cpu.flagC || decide (s.cpu.a.toNat > 0x99)
      let low := s.cpu.flagH || decide (s.cpu.a.toNat % 16 > 9)
      (s.cpu.flagN = false → r.toNat = (s.cpu.a.toNat + 0x60 * up.toNat + 6 * low.toNat) % 256 ∧
        FlagsAre f (decide (r = 0)) false false up) ∧
      (s.cpu.flagN = true →
        (r.toNat : Int) = ((s.cpu.a.toNat : Int) - 0x60 * s.cpu.flagC.toNat - 6 * s.cpu.flagH.toNat) % 256 ∧
        FlagsAre f (decide (r = 0)) true false s.cpu.flagC))) ∧
    (exec .cpl s = .next { s with cpu := { s.cpu with a := x, f := cf } } ∧ x.toNat = 255 - s.cpu.a.toNat ∧
      FlagsAre cf s.cpu.flagZ true true s.cpu.flagC) ∧
    (exec .scf s = .next { s with cpu := { s.cpu with f := sf } } ∧ FlagsAre sf s.cpu.flagZ false false true) ∧
    (exec .ccf s = .next { s with cpu := { s.cpu with f := kf } } ∧ FlagsAre kf s.cpu.flagZ false false (!s.cpu.flagC))

/-- DAA corrects BCD arithmetic: adding two two-digit BCD numbers with ADC, then DAA, leaves the BCD digits of the sum modulo 100 and the
carry of 100; subtracting with SBC, then DAA, leaves those of the difference and the borrow. -/
def Obligations.DecimalArithmetic : Prop :=
  ∀ (x y : Nat) (s t u : State), x < 100 → y < 100 → s.cpu.a.toNat = x / 10 * 16 + x % 10 → exec .daa t = .next u →
    (exec (.adcAD8 (BitVec.ofNat 8 (y / 10 * 16 + y % 10))) s = .next t →
      (let z := x + y + s.cpu.flagC.toNat
       u.cpu.a.toNat = z % 100 / 10 * 16 + z % 10 ∧ u.cpu.flagC = decide (100 ≤ z))) ∧
    (exec (.sbcAD8 (BitVec.ofNat 8 (y / 10 * 16 + y % 10))) s = .next t →
      (let z := x + 100 - y - s.cpu.flagC.toNat
       u.cpu.a.toNat = z % 100 / 10 * 16 + z % 10 ∧ u.cpu.flagC = decide (z < 100)))

/-- R223, R320 to R323: the accumulator rotates: A and the carry as for the CB form, N and H clear, Z by ACC_ROT_Z. -/
def Obligations.AccumulatorRotates : Prop :=
  ∀ s : State, ∀ io ∈ [(Instr.rlca, RotOp.rlc), (.rla, .rl), (.rrca, .rrc), (.rra, .rr)], ∃ (r f : Byte) (co : Bool),
    exec io.1 s = .next { s with cpu := { s.cpu with a := r, f := f } } ∧
    RotSpec s.cpu.a s.cpu.flagC r co io.2 ∧
    FlagsAre f (match s.params.accRotZ with | .fromResult => decide (r = 0) | .clear => false) false false co

/-- R221, R340, R341: BIT: Z is the complement of the bit, N 0, H 1, C unchanged; the operand is read and not written. -/
def Obligations.TestBit : Prop :=
  ∀ (b : Fin 8) (s : State),
    (∀ x : Reg8, ∃ f : Byte, exec (.bitReg b x) s = .next { s with cpu := { s.cpu with f := f } } ∧
      FlagsAre f (!(s.cpu.reg x).getLsbD b.val) false true s.cpu.flagC) ∧
    (∃ f : Byte, exec (.bitHL b) s = .next { s.noteRead s.cpu.hl with cpu := { s.cpu with f := f } } ∧
      FlagsAre f (!(s.busRead s.cpu.hl).getLsbD b.val) false true s.cpu.flagC)

/-- R376: the 0xCB prefix executes the CB-table entry of its second byte, and completes as that entry does. -/
def Obligations.PrefixExecutesEntry : Prop :=
  ∀ (op2 : Byte) (s : State), ∃ (i : Instr) (t : State),
    decode [0xCB, op2] = .ok (i, []) ∧ exec (.prefixCb op2) s = .next t ∧ exec i s = .next t

/-! ## 16-bit arithmetic -/

/-- R210, R315, R316, R317: ADD HL,rr: the sum modulo 2^16, N 0, H and C from bits 11 and 15, Z unchanged. INC rr and DEC rr: the pair
moves by one modulo 2^16 and no flag changes. Nothing else changes. -/
def Obligations.PairArithmetic : Prop :=
  ∀ (p : Pair) (s : State), ∃ (v up down : Word) (f : Byte),
    exec (.addHL p) s = .next { s with cpu := { s.cpu with h := v.extractLsb' 8 8, l := v.extractLsb' 0 8, f := f } } ∧
    v.toNat = (s.cpu.hl.toNat + (s.cpu.pair p).toNat) % 65536 ∧
    FlagsAre f s.cpu.flagZ false (decide (s.cpu.hl.toNat % 4096 + (s.cpu.pair p).toNat % 4096 > 4095))
      (decide (s.cpu.hl.toNat + (s.cpu.pair p).toNat > 65535)) ∧
    exec (.incPair p) s = .next { s with cpu := s.cpu.setPair p up } ∧ up.toNat = ((s.cpu.pair p).toNat + 1) % 65536 ∧
    exec (.decPair p) s = .next { s with cpu := s.cpu.setPair p down } ∧ down.toNat = ((s.cpu.pair p).toNat + 65535) % 65536

/-! ## Control transfer -/

/-- R220, R350 to R354: the four conditions, and the jumps. Only PC changes; a conditional form that is taken adds 4 cycles, and one that
is not changes nothing at all. -/
def Obligations.Jumps : Prop :=
  ∀ s : State,
    (s.cpu.cond .nz = !s.cpu.f.getLsbD 7 ∧ s.cpu.cond .z = s.cpu.f.getLsbD 7 ∧ s.cpu.cond .nc = !s.cpu.f.getLsbD 4 ∧
      s.cpu.cond .c = s.cpu.f.getLsbD 4) ∧
    (∀ a : Word, exec (.jpA16 a) s = .next { s with cpu := { s.cpu with pc := a } }) ∧
    exec .jpHL s = .next { s with cpu := { s.cpu with pc := s.cpu.h ++ s.cpu.l } } ∧
    (∀ e : Byte, ∃ t : Word, (t.toNat : Int) = ((s.cpu.pc.toNat : Int) + e.toInt) % 65536 ∧
      exec (.jrE8 e) s = .next { s with cpu := { s.cpu with pc := t } } ∧
      (∀ k : Cond, exec (.jrCond k e) s = .next
        (if s.cpu.cond k = true
         then { s with cpu := { s.cpu with pc := t }, engine := { s.engine with cycles := s.engine.cycles + 4 } } else s))) ∧
    (∀ (k : Cond) (a : Word), exec (.jpCond k a) s = .next
      (if s.cpu.cond k = true
       then { s with cpu := { s.cpu with pc := a }, engine := { s.engine with cycles := s.engine.cycles + 4 } } else s))

/-- R355, R356, R360: CALL, CALL cc and RST push the address after the instruction, high byte first, and go to their target; a CALL cc that
is taken adds 12 cycles, and one that is not pushes nothing. -/
def Obligations.CallsAndRestarts : Prop :=
  ∀ (s : State) (a : Word),
    (let pushed := (s.busWrite (s.cpu.sp - 1) (s.cpu.pc.extractLsb' 8 8)).busWrite (s.cpu.sp - 2) (s.cpu.pc.extractLsb' 0 8)
     exec (.callA16 a) s = .next { pushed with cpu := { s.cpu with sp := s.cpu.sp - 2, pc := a } } ∧
     (∀ k : Cond, exec (.callCond k a) s = .next
       (if s.cpu.cond k = true
        then { pushed with
          cpu := { s.cpu with sp := s.cpu.sp - 2, pc := a },
          engine := { s.engine with cycles := s.engine.cycles + 12 } }
        else s)) ∧
     (∀ y : Fin 8, exec (.rst y) s = .next { pushed with
       cpu := { s.cpu with sp := s.cpu.sp - 2, pc := BitVec.ofNat 16 (8 * y.val) } }))

/-- R357, R358, R359: RET pops PC; RET cc does so when taken, adding 12 cycles, and else pops nothing; RETI pops PC, sets IME at once and
drops a pending enable. Nothing else changes but the draw counter. -/
def Obligations.Returns : Prop :=
  ∀ s : State, ∃ n : Nat,
    (let popped := (s.noteRead s.cpu.sp).busRead (s.cpu.sp + 1) ++ s.busRead s.cpu.sp
     exec .ret s = .next { s with cpu := { s.cpu with sp := s.cpu.sp + 2, pc := popped }, draws := n } ∧
     (∀ k : Cond, exec (.retCond k) s = .next
       (if s.cpu.cond k = true
        then { s with
          cpu := { s.cpu with sp := s.cpu.sp + 2, pc := popped }, draws := n,
          engine := { s.engine with cycles := s.engine.cycles + 12 } }
        else s)) ∧
     exec .reti s = .next { s with
       cpu := { s.cpu with sp := s.cpu.sp + 2, pc := popped }, draws := n,
       engine := { s.engine with ime := true, imeEnabling := false } }) ∧
    (s.isDraw s.cpu.sp = false → s.isDraw (s.cpu.sp + 1) = false → n = s.draws)

/-! ## System and control -/

/-- R370 to R375: NOP and the eleven unrecognized opcodes do nothing; HALT, DI and EI change their engine bits alone; STOP stops the CPU,
or, in color mode with the switch armed, changes the speed, disarms the switch and runs on. -/
def Obligations.SystemInstructions : Prop :=
  ∀ s : State,
    exec .nop s = .next s ∧
    (∀ x : Illegal, exec (.illegal x) s = .next s) ∧
    exec .halt s = .next { s with engine := { s.engine with halted := true } } ∧
    exec .di s = .next { s with engine := { s.engine with ime := false, imeEnabling := false } } ∧
    exec .ei s = .next { s with engine := { s.engine with imeEnabling := true } } ∧
    (∀ v : Byte,
      (s.color = true → s.speed.armed = true → exec (.stop v) s = .next { s with
        engine := { s.engine with stopped := false }, speed := { doubleSpeed := !s.speed.doubleSpeed, armed := false } }) ∧
      (s.color = false ∨ s.speed.armed = false →
        exec (.stop v) s = .next { s with engine := { s.engine with stopped := true } }))

/-! ## The bus -/

/-- R77, R79: the echo region in both values of ECHO_MODE, and the unusable region. -/
def Obligations.EchoAndUnusable : Prop :=
  ∀ (s : State) (a : Word) (v : Byte),
    (0xE000 ≤ a.toNat → a.toNat ≤ 0xFDFF → s.params.echoMode = .stub → s.busRead a = 0xFF ∧ s.busWrite a v = s) ∧
    (0xE000 ≤ a.toNat → a.toNat ≤ 0xFDFF → s.params.echoMode = .mirror →
      s.busRead a = s.busRead (a - 0x2000) ∧ s.busWrite a v = s.busWrite (a - 0x2000) v) ∧
    (0xFEA0 ≤ a.toNat → a.toNat ≤ 0xFEFF → s.busRead a = 0xFF ∧ s.busWrite a v = s)

/-- R81 to R87, R89: a read changes no state of the block; and the ports whose read transforms what is stored: JOYP, IF, and in color mode
KEY1, VBK and SVBK. That a read of a draw port, the sound range and the color-mode palette ports, moves the draw counter, and no other
read does, is the model's choice and no rule's (log entries 1 and 19, DESIGN CHOICE); so is holding the host's pressed mask in a field
(log entry 10, DESIGN CHOICE). -/
def Obligations.PortReads : Prop :=
  ∀ s : State,
    (∀ a : Word, s.noteRead a = { s with draws := if s.isDraw a then s.draws + 1 else s.draws } ∧
      (s.isDraw a = true ↔
        (0xFF10 ≤ a.toNat ∧ a.toNat ≤ 0xFF3F) ∨ (s.color = true ∧ 0xFF68 ≤ a.toNat ∧ a.toNat ≤ 0xFF6B))) ∧
    (∃ p : Byte, s.busRead 0xFF00 = 0xC0 ||| (s.ioByte 0 &&& 0x30) ||| (~~~p &&& 0x0F) ∧
      ∀ k < 4, p.getLsbD k = ((!(s.ioByte 0).getLsbD 4 && s.buttons.getLsbD k) ||
        (!(s.ioByte 0).getLsbD 5 && s.buttons.getLsbD (k + 4)))) ∧
    s.busRead 0xFF0F = s.ioByte 0x0F ||| 0xE0 ∧
    (s.color = true →
      (s.busRead 0xFF4D).toNat = 128 * s.speed.doubleSpeed.toNat + 0x7E + s.speed.armed.toNat ∧
      (s.busRead 0xFF4F).toNat = 0xFE + s.vramBank.toNat ∧ (s.busRead 0xFF70).toNat = 0xF8 + s.wramBank.toNat)

/-- R90, R91, R93 to R96, R105: the ports with a write rule in both modes: JOYP, DIV, TAC, IF, IE, STAT, LY and the sound range. Each write
changes what its rule names and nothing else. IF and IE store all 8 bits, and what the interrupt phase then does to the CPU and the engine,
and what it charges, does not depend on bits 7:5. -/
def Obligations.PortWrites : Prop :=
  ∀ (s : State) (v : Byte),
    s.busWrite 0xFF00 v = s.setIo 0x00 ((s.ioByte 0x00 &&& 0xCF) ||| (v &&& 0x30)) ∧
    s.busWrite 0xFF04 v = { s.setIo 0x04 0 with timer := { s.timer with divAcc := 0, timerAcc := 0 } } ∧
    (∃ th : Threshold, th.cycles = (match (v.toNat % 4 : Nat) with | 0 => 1024 | 1 => 16 | 2 => 64 | _ => 256) ∧
      s.busWrite 0xFF07 v = { s.setIo 0x07 v with
        timer := { s.timer with threshold := th, timerAcc := if th = s.timer.threshold then s.timer.timerAcc else 0 } }) ∧
    s.busWrite 0xFF41 v = s.setIo 0x41 (v ||| 0x80) ∧
    s.busWrite 0xFF44 v = s.setIo 0x44 0 ∧
    s.busWrite 0xFF0F v = s.setIo 0x0F v ∧ s.busWrite 0xFFFF v = s.setIo 0xFF v ∧
    (∀ a : Word, a = 0xFF0F ∨ a = 0xFFFF → s.memoryWf = true →
      (let p := (s.busWrite a v).interruptPhase
       let q := (s.busWrite a (v &&& 0x1F)).interruptPhase
       p.1.cpu = q.1.cpu ∧ p.1.engine = q.1.engine ∧ p.2 = q.2)) ∧
    (∀ k : Nat, 0x10 ≤ k → k ≤ 0x3F → s.busWrite (BitVec.ofNat 16 (0xFF00 + k)) v = s.setIo k v)

/-- R98, R99, R100, R107: the color-mode ports: KEY1, VBK and SVBK in color mode, and every one of them plain in monochrome mode. A palette
port stores the byte and passes the write to the palette collaborator (R104); that the write passed is held in the queue `paletteOut` is
the model's choice and no rule's (log entry 11, DESIGN CHOICE). -/
def Obligations.ColorPortWrites : Prop :=
  ∀ (s : State) (v : Byte),
    (s.color = true →
      s.busWrite 0xFF4D v = { s with speed := { s.speed with armed := v.getLsbD 0 } } ∧
      s.busWrite 0xFF4F v = { s with vramBank := v.extractLsb' 0 1 } ∧
      (∃ b : BitVec 3, s.busWrite 0xFF70 v = { s with wramBank := b } ∧
        b.toNat = if v.toNat % 8 = 0 then 1 else v.toNat % 8) ∧
      (∀ k : Nat, 0x68 ≤ k → k ≤ 0x6B → s.busWrite (BitVec.ofNat 16 (0xFF00 + k)) v =
        { s.setIo k v with paletteOut := s.paletteOut ++ [(k, v)] })) ∧
    (s.color = false →
      ∀ k ∈ [0x4D, 0x4F, 0x51, 0x52, 0x53, 0x54, 0x55, 0x68, 0x69, 0x6A, 0x6B, 0x70],
        s.busWrite (BitVec.ofNat 16 (0xFF00 + k)) v = s.setIo k v ∧ s.busRead (BitVec.ofNat 16 (0xFF00 + k)) = s.ioByte k)

/-- R97: a write to DMA copies 0xA0 bytes, from the page the value names, into OAM, each as the bus reads it (a byte of an open port may be
any), and changes nothing else but the register's byte. -/
def Obligations.OamDma : Prop :=
  ∀ (s : State) (v : Byte), ∃ (oam : Memory) (n : Nat),
    s.busWrite 0xFF46 v = { s.setIo 0x46 v with oam := oam, draws := n } ∧
    (∀ i < 0xA0, s.memoryWf = true → s.isDraw ((v ++ 0#8 : Word) + BitVec.ofNat 16 i) = false →
      oam.get ramFill i = (s.setIo 0x46 v).busRead ((v ++ 0#8 : Word) + BitVec.ofNat 16 i))

/-- R102, R88: a color-mode write to HDMA5. Bit 7 set arms an HBlank transfer; bit 7 clear while one is active cancels it; bit 7 clear
otherwise copies `(v[6:0] + 1) * 16` bytes at once from the source into VRAM, wrapping inside the selected bank, and HDMA5 reads 0xFF. The
copied bytes are stated for a source outside VRAM, whose bytes the copy does not change, without open ports in it. -/
def Obligations.HdmaTrigger : Prop :=
  ∀ (s : State) (v : Byte), s.color = true →
    (128 ≤ v.toNat → ∃ src dst : Word,
      src.toNat = (s.ioByte 0x51).toNat * 256 + (s.ioByte 0x52).toNat / 16 * 16 ∧
      dst.toNat = 0x8000 + (s.ioByte 0x53).toNat % 32 * 256 + (s.ioByte 0x54).toNat / 16 * 16 ∧
      s.busWrite 0xFF55 v = { s.setIo 0x55 (v &&& 0x7F) with
        hdma := { len := v.toNat - 128 + 1, active := true, src := src, dst := dst } }) ∧
    (v.toNat < 128 → s.hdma.active = true →
      s.busWrite 0xFF55 v = { s.setIo 0x55 (s.ioByte 0x55 ||| 0x80) with hdma := { s.hdma with active := false } }) ∧
    (v.toNat < 128 → s.hdma.active = false → ∃ (vram : Memory) (n : Nat),
      s.busWrite 0xFF55 v = { s with vram := vram, draws := n, io := s.io.set ramFill 0x55 0xFF } ∧
      ∀ src doff : Nat, s.memoryWf = true →
        src = (s.ioByte 0x51).toNat * 256 + (s.ioByte 0x52).toNat / 16 * 16 →
        doff = (s.ioByte 0x53).toNat % 32 * 256 + (s.ioByte 0x54).toNat / 16 * 16 →
        (∀ j < (v.toNat + 1) * 16, s.isDraw (BitVec.ofNat 16 (src + j)) = false ∧
          ((src + j) % 65536 < 0x8000 ∨ 0x9FFF < (src + j) % 65536)) →
        (∀ j < (v.toNat + 1) * 16,
          vram.get ramFill (s.vramBank.toNat * 0x2000 + (doff + j) % 0x2000) = s.busRead (BitVec.ofNat 16 (src + j))) ∧
        (∀ o : Nat, (∀ j < (v.toNat + 1) * 16, o ≠ s.vramBank.toNat * 0x2000 + (doff + j) % 0x2000) →
          vram.get ramFill o = s.vram.get ramFill o))

/-- R103: an HBlank tick copies one block of an active transfer, advances both addresses, counts the length down and ends the transfer when
it reaches 0; with no transfer active it does nothing. The copied bytes are stated for a source outside VRAM without open ports. -/
def Obligations.HblankTick : Prop :=
  ∀ s : State,
    (s.hdma.active = false → s.hblankTick = s) ∧
    (s.hdma.active = true → s.legal = true → ∃ (vram : Memory) (n : Nat),
      s.hblankTick = { s with
        vram := vram, draws := n,
        hdma := { len := s.hdma.len - 1, active := decide (s.hdma.len ≠ 1), src := s.hdma.src + 16,
                  dst := if s.hdma.dst = 0x9FF0 then 0x8000 else s.hdma.dst + 16 },
        io := s.io.set ramFill 0x55 (if s.hdma.len = 1 then 0xFF else BitVec.ofNat 8 (s.hdma.len - 2)) } ∧
      ((∀ j < 16, s.isDraw (s.hdma.src + BitVec.ofNat 16 j) = false ∧
          ((s.hdma.src + BitVec.ofNat 16 j).toNat < 0x8000 ∨ 0x9FFF < (s.hdma.src + BitVec.ofNat 16 j).toNat)) →
        n = s.draws ∧
        (∀ o : Nat, vram.get ramFill o =
          if s.vramBank.toNat * 0x2000 + (s.hdma.dst.toNat - 0x8000) ≤ o ∧
             o < s.vramBank.toNat * 0x2000 + (s.hdma.dst.toNat - 0x8000) + 16 then
            s.busRead (s.hdma.src + BitVec.ofNat 16 (o - s.vramBank.toNat * 0x2000 - (s.hdma.dst.toNat - 0x8000)))
          else s.vram.get ramFill o)))

/-! ## The cartridge -/

/-- R113, R115: ROM reads by array index, 0xFF past its end; PlainROM shows banks 0 and 1, its control writes have no effect, and its RAM
needs no latch. -/
def Obligations.PlainRom : Prop :=
  ∀ (s : State) (a : Word) (v : Byte), s.cart = .plainRom →
    (a.toNat ≤ 0x7FFF → s.busRead a = (if a.toNat < s.romLen then s.rom.get romFill a.toNat else 0xFF) ∧ s.busWrite a v = s) ∧
    (0xA000 ≤ a.toNat → a.toNat ≤ 0xBFFF →
      s.busRead a = (if a.toNat - 0xA000 < s.eramSize then s.eram.get ramFill (a.toNat - 0xA000) else 0xFF) ∧
      s.busWrite a v = if a.toNat - 0xA000 < s.eramSize then { s with eram := s.eram.set ramFill (a.toNat - 0xA000) v } else s)

/-- R116 to R121: after writes of `en`, `lo`, `hi` and `md` to MBC1's latch and its three bank ports, which change its registers and nothing
else, a read of 0x4000-0x7FFF shows the bank they combine to, never a multiple of 32, and a read and a write of external RAM follow the
enable latch and the mode. -/
def Obligations.Mbc1Banking : Prop :=
  ∀ (s t : State) (r : Mbc1) (a p0 p1 p2 p3 : Word) (en lo hi md v : Byte), s.cart = .mbc1 r →
    p0.toNat ≤ 0x1FFF → 0x2000 ≤ p1.toNat → p1.toNat ≤ 0x3FFF → 0x4000 ≤ p2.toNat → p2.toNat ≤ 0x5FFF →
    0x6000 ≤ p3.toNat → p3.toNat ≤ 0x7FFF →
    t = (((s.busWrite p0 en).busWrite p1 lo).busWrite p2 hi).busWrite p3 md →
    (let raw := if md.toNat % 2 = 0 then hi.toNat % 4 * 32 + lo.toNat % 32 else lo.toNat % 32
     let bank := if raw % 32 = 0 then raw + 1 else raw
     let ramBank := if md.toNat % 2 = 1 then hi.toNat % 4 else 0
     (∃ q : Mbc1, t = { s with cart := .mbc1 q }) ∧
     (a.toNat ≤ 0x3FFF → t.busRead a = s.romByte a.toNat) ∧
     (0x4000 ≤ a.toNat → a.toNat ≤ 0x7FFF → t.busRead a = s.romByte (bank * 0x4000 + (a.toNat - 0x4000))) ∧
     (0xA000 ≤ a.toNat → a.toNat ≤ 0xBFFF →
       t.busRead a = (if en.toNat % 16 = 10 then s.eramByte (ramBank * 0x2000 + (a.toNat - 0xA000)) else 0xFF) ∧
       t.busWrite a v = (if en.toNat % 16 = 10 then t.eramWrite (ramBank * 0x2000 + (a.toNat - 0xA000)) v else t)))

/-- R122, R123: MBC2. Address bit 8 selects the latch or the 4-bit bank register, in which 0 means 1; the RAM is 512 four-bit cells that
repeat through the window, and reads of it have their high bits set. -/
def Obligations.Mbc2Banking : Prop :=
  ∀ (s : State) (r : Mbc2) (a : Word) (v : Byte), s.cart = .mbc2 r → s.eramSize = 512 →
    (a.toNat ≤ 0x3FFF → a.getLsbD 8 = false →
      s.busWrite a v = { s with cart := .mbc2 { r with ramEnabled := decide (v.toNat % 16 = 10) } }) ∧
    (a.toNat ≤ 0x3FFF → a.getLsbD 8 = true → s.busWrite a v = { s with cart := .mbc2 { r with romBank := v.extractLsb' 0 4 } }) ∧
    (a.toNat ≤ 0x3FFF → s.busRead a = s.romByte a.toNat) ∧
    (0x4000 ≤ a.toNat → a.toNat ≤ 0x7FFF → s.busWrite a v = s ∧
      s.busRead a = s.romByte ((if r.romBank.toNat = 0 then 1 else r.romBank.toNat) * 0x4000 + (a.toNat - 0x4000))) ∧
    (0xA000 ≤ a.toNat → a.toNat ≤ 0xBFFF →
      (r.ramEnabled = false → s.busRead a = 0xFF ∧ s.busWrite a v = s) ∧
      (r.ramEnabled = true →
        s.busRead a = 0xF0 ||| (s.eram.get ramFill ((a.toNat - 0xA000) % 512) &&& 0x0F) ∧
        s.busWrite a v = { s with eram := s.eram.set ramFill ((a.toNat - 0xA000) % 512) (v &&& 0x0F) }))

/-- R124 to R129: MBC3. The latch, the 7-bit bank register in which 0 means 1, the RAM-bank or clock select that ignores every other value,
and the clock registers: a read gives the latched copy, a write goes to the live one. -/
def Obligations.Mbc3Banking : Prop :=
  ∀ (s : State) (r : Mbc3) (a : Word) (v : Byte), s.cart = .mbc3 r →
    (a.toNat ≤ 0x1FFF → s.busWrite a v = { s with cart := .mbc3 { r with ramEnabled := decide (v.toNat % 16 = 10) } }) ∧
    (0x2000 ≤ a.toNat → a.toNat ≤ 0x3FFF → s.busWrite a v = { s with cart := .mbc3 { r with romBank := v.extractLsb' 0 7 } }) ∧
    (0x4000 ≤ a.toNat → a.toNat ≤ 0x5FFF →
      (v.toNat ≤ 3 → s.busWrite a v = { s with cart := .mbc3 { r with ramSel := .ram (v.extractLsb' 0 2) } }) ∧
      (∀ k ∈ [(8, RtcReg.seconds), (9, .minutes), (10, .hours), (11, .dayLow), (12, .dayHigh)], v.toNat = k.1 →
        s.busWrite a v = { s with cart := .mbc3 { r with ramSel := .clock k.2 } }) ∧
      (3 < v.toNat → (v.toNat < 8 ∨ 12 < v.toNat) → s.busWrite a v = s)) ∧
    (0x6000 ≤ a.toNat → a.toNat ≤ 0x7FFF → s.busWrite a v = { s with cart := .mbc3 { r with
      latched := if r.latchArmed = true ∧ v = 1 then r.live else r.latched, latchArmed := decide (v = 0) } }) ∧
    (a.toNat ≤ 0x3FFF → s.busRead a = s.romByte a.toNat) ∧
    (0x4000 ≤ a.toNat → a.toNat ≤ 0x7FFF →
      s.busRead a = s.romByte ((if r.romBank.toNat = 0 then 1 else r.romBank.toNat) * 0x4000 + (a.toNat - 0x4000))) ∧
    (0xA000 ≤ a.toNat → a.toNat ≤ 0xBFFF →
      (r.ramEnabled = false → s.busRead a = 0xFF ∧ s.busWrite a v = s) ∧
      (∀ b : BitVec 2, r.ramEnabled = true → r.ramSel = .ram b →
        s.busRead a = s.eramByte (b.toNat * 0x2000 + (a.toNat - 0xA000)) ∧
        s.busWrite a v = s.eramWrite (b.toNat * 0x2000 + (a.toNat - 0xA000)) v) ∧
      (∀ k : RtcReg, r.ramEnabled = true → r.ramSel = .clock k →
        s.busRead a = r.latched.get k ∧ s.busWrite a v = { s with cart := .mbc3 { r with live := r.live.set k v } } ∧
        (r.live.set k v).get k = v ∧ ∀ j : RtcReg, j ≠ k → (r.live.set k v).get j = r.live.get j))

/-- R130, R131: MBC5: the 9-bit bank register through its two ports, with no remap of 0, and the 4-bit RAM bank. -/
def Obligations.Mbc5Banking : Prop :=
  ∀ (s : State) (r : Mbc5) (a : Word) (v : Byte), s.cart = .mbc5 r →
    (a.toNat ≤ 0x1FFF → s.busWrite a v = { s with cart := .mbc5 { r with ramEnabled := decide (v.toNat % 16 = 10) } }) ∧
    (∃ b : BitVec 9, (0x2000 ≤ a.toNat → a.toNat ≤ 0x2FFF → s.busWrite a v = { s with cart := .mbc5 { r with romBank := b } }) ∧
      b.toNat = r.romBank.toNat / 256 * 256 + v.toNat) ∧
    (∃ b : BitVec 9, (0x3000 ≤ a.toNat → a.toNat ≤ 0x3FFF → s.busWrite a v = { s with cart := .mbc5 { r with romBank := b } }) ∧
      b.toNat = v.toNat % 2 * 256 + r.romBank.toNat % 256) ∧
    (0x4000 ≤ a.toNat → a.toNat ≤ 0x5FFF → s.busWrite a v = { s with cart := .mbc5 { r with ramBank := v.extractLsb' 0 4 } }) ∧
    (0x6000 ≤ a.toNat → a.toNat ≤ 0x7FFF → s.busWrite a v = s) ∧
    (a.toNat ≤ 0x3FFF → s.busRead a = s.romByte a.toNat) ∧
    (0x4000 ≤ a.toNat → a.toNat ≤ 0x7FFF → s.busRead a = s.romByte (r.romBank.toNat * 0x4000 + (a.toNat - 0x4000))) ∧
    (0xA000 ≤ a.toNat → a.toNat ≤ 0xBFFF →
      (r.ramEnabled = false → s.busRead a = 0xFF ∧ s.busWrite a v = s) ∧
      (r.ramEnabled = true → s.busRead a = s.eramByte (r.ramBank.toNat * 0x2000 + (a.toNat - 0xA000)) ∧
        s.busWrite a v = s.eramWrite (r.ramBank.toNat * 0x2000 + (a.toNat - 0xA000)) v))

/-- R132: `load_save_data(get_save_data())` changes nothing, for every controller variant; a load changes external RAM alone, and its first
bytes are the blob's. -/
def Obligations.SaveRoundTrip : Prop :=
  ∀ (s : State) (blob : List Byte), s.memoryWf = true →
    s.loadSaveData s.getSaveData = s ∧ s.getSaveData.length = s.eramSize ∧
    (∃ eram : Memory, s.loadSaveData blob = { s with eram := eram } ∧
      ∀ i < s.eramSize, eram.get ramFill i = blob.getD i (s.eram.get ramFill i))

/-! ## Interrupts, waits and the timer -/

/-- R403, R404, R405: with IME set, the phase dispatches the lowest-numbered source that is requested and enabled: IME and `halted` cleared,
its IF bit cleared, then PC pushed through the bus, and PC at 0x0040 + 8n. Nothing else changes, and the cost is INT_DISPATCH_CYCLES. -/
def Obligations.InterruptDispatch : Prop :=
  ∀ (s : State) (n : Nat), s.engine.stopped = false → s.engine.imeEnabling = false → s.engine.ime = true → n < 5 →
    s.ifByte.getLsbD n = true → s.ieByte.getLsbD n = true →
    (∀ m < n, s.ifByte.getLsbD m = false ∨ s.ieByte.getLsbD m = false) →
    s.interruptPhase = ({ ((s.setIo 0x0F (s.ifByte &&& ~~~(1#8 <<< n))).busWrite (s.cpu.sp - 1) (s.cpu.pc.extractLsb' 8 8)).busWrite
        (s.cpu.sp - 2) (s.cpu.pc.extractLsb' 0 8) with
      cpu := { s.cpu with sp := s.cpu.sp - 2, pc := BitVec.ofNat 16 (0x40 + 8 * n) },
      engine := { s.engine with ime := false, halted := false } }, s.params.intDispatchCycles)

/-- R403, R409, R410: every other case of the phase: a stopped CPU only tests the joypad bit; a pending enable is completed and nothing is
serviced; a halted CPU with IME clear and a request enabled only wakes; and with nothing to do nothing changes. None costs a cycle. -/
def Obligations.InterruptPhaseOtherwise : Prop :=
  ∀ s : State,
    (s.engine.stopped = true →
      s.interruptPhase = ({ s with engine := { s.engine with stopped := !s.ifByte.getLsbD 4 } }, 0)) ∧
    (s.engine.stopped = false → s.engine.imeEnabling = true →
      s.interruptPhase = ({ s with engine := { s.engine with ime := true, imeEnabling := false } }, 0)) ∧
    (s.engine.stopped = false → s.engine.imeEnabling = false → s.engine.ime = false → s.engine.halted = true →
      s.ifByte &&& s.ieByte &&& 0x1F ≠ 0 → s.interruptPhase = ({ s with engine := { s.engine with halted := false } }, 0)) ∧
    (s.engine.stopped = false → s.engine.imeEnabling = false →
      ((s.engine.ime = false ∧ s.engine.halted = false) ∨ s.ifByte &&& s.ieByte &&& 0x1F = 0) → s.interruptPhase = (s, 0))

/-- R373, R408, R461, R462: the steps of EI and of DI dispatch nothing, whatever is requested: PC is at the next instruction and no other
register moves. After EI's step IME is set and the enable no longer pending; after DI's step both are clear. -/
def Obligations.EiAndDiSteps : Prop :=
  ∀ (s t : State) (i : Instr) (rest : List Byte), s.engine.stopped = false →
    (s.engine.halted = false ∨ s.ifByte &&& s.ieByte &&& 0x1F ≠ 0) → decode (s.fetchBytes 3) = .ok (i, rest) → step s = .next t →
    (i = .ei → t.engine.ime = true ∧ t.engine.imeEnabling = false ∧ t.cpu = { s.cpu with pc := s.cpu.pc + 1 } ∧
      t.engine.halted = s.engine.halted) ∧
    (i = .di → t.engine.ime = false ∧ t.engine.imeEnabling = false ∧ t.cpu = { s.cpu with pc := s.cpu.pc + 1 })

/-- R411, R412: the two timers. The divider: however many cycles one call adds, DIV counts each full period once and the rest stays
accumulated, below the period. One cycle of the selectable timer: disabled it keeps everything; enabled it accumulates, and at the threshold
TIMA counts one, or on overflow is reloaded from TMA with a Timer request. Nothing else changes. -/
def Obligations.TimersCount : Prop :=
  ∀ s : State,
    (∀ c : Nat, s.timer.divAcc < s.params.divPeriod → ∃ (k acc : Nat) (n : Byte),
      s.divTick c = { s.setIo 0x04 n with timer := { s.timer with divAcc := acc } } ∧
      s.timer.divAcc + c = k * s.params.divPeriod + acc ∧ acc < s.params.divPeriod ∧
      n.toNat = ((s.ioByte 0x04).toNat + k) % 256) ∧
    ((s.ioByte 0x07).getLsbD 2 = false → ∀ c, s.timaTick c = s) ∧
    ((s.ioByte 0x07).getLsbD 2 = true → s.timer.timerAcc + 1 < s.timer.threshold.cycles →
      s.timaTick 1 = { s with timer := { s.timer with timerAcc := s.timer.timerAcc + 1 } }) ∧
    ((s.ioByte 0x07).getLsbD 2 = true → s.timer.timerAcc + 1 = s.timer.threshold.cycles →
      (s.ioByte 0x05 ≠ 0xFF → s.timaTick 1 =
        { s.setIo 0x05 (s.ioByte 0x05 + 1) with timer := { s.timer with timerAcc := 0 } }) ∧
      (s.ioByte 0x05 = 0xFF → s.timaTick 1 =
        { (s.setIo 0x05 (s.ioByte 0x06)).setIo 0x0F (s.ifByte ||| 0x04) with timer := { s.timer with timerAcc := 0 } }))

/-- The timer phase of `c + d` cycles is that of `c` followed by that of `d`: with the one-cycle rules it fixes the phase of any count. -/
def Obligations.TimerTickAdds : Prop :=
  ∀ (s : State) (c d : Nat), s.memoryWf = true → s.params.wf = true →
    (s.timerTick c).timerTick d = s.timerTick (c + d)

/-! ## Launch -/

/-- R65 to R68: every register of the CPU, the engine, the timer, the speed switch, the HDMA and the cartridge at launch, and the named I/O
bytes whatever INIT_RAM holds; every other byte of the bus's arrays is INIT_RAM's. The ROM is the ROM given, bank 1 of it at 0x4000 under
every controller; external RAM is the save blob for a battery type, where one was read and as far as it goes, else INIT_ERAM (R111, R132).
-/
def Obligations.LaunchState : Prop :=
  ∀ L : LaunchInput,
    (State.launch L).cpu = (if headerByte L.rom 0x143 = 0x80 ∨ headerByte L.rom 0x143 = 0xC0 then
        { a := 0x11, f := 0x80, b := 0x00, c := 0x00, d := 0xFF, e := 0x56, h := 0x00, l := 0x0D, sp := 0xFFFE, pc := 0x0100 }
      else { a := 0x01, f := 0xB0, b := 0x00, c := 0x13, d := 0x00, e := 0xD8, h := 0x01, l := 0x4D, sp := 0xFFFE, pc := 0x0100 }) ∧
    (State.launch L).engine.halted = false ∧ (State.launch L).engine.stopped = false ∧ (State.launch L).engine.ime = false ∧
    (State.launch L).engine.imeEnabling = false ∧ (State.launch L).engine.clockT = 0 ∧ (State.launch L).engine.clockM = 0 ∧
    (State.launch L).timer = { divAcc := 0, timerAcc := 0, threshold := .t1024 } ∧ (State.launch L).vramBank = 0 ∧
    (State.launch L).wramBank = 1 ∧ (State.launch L).speed = { doubleSpeed := false, armed := false } ∧
    (State.launch L).hdma = { len := 0, active := false, src := 0, dst := 0x8000 } ∧
    (∀ r, (State.launch L).cart = .mbc1 r → r.ramEnabled = false ∧ r.bankLo = 0 ∧ r.bankHi = 0 ∧ r.mode = 0) ∧
    (∀ r, (State.launch L).cart = .mbc2 r → r.ramEnabled = false ∧ r.romBank = 0) ∧
    (∀ r, (State.launch L).cart = .mbc3 r → r.ramEnabled = false ∧ r.romBank = 0 ∧ r.ramSel = .ram 0 ∧ r.latchArmed = false ∧
      ∀ k, r.live.get k = 0 ∧ r.latched.get k = 0) ∧
    (∀ r, (State.launch L).cart = .mbc5 r → r.ramEnabled = false ∧ r.romBank = 1 ∧ r.ramBank = 0) ∧
    (State.launch L).vram = L.initVram ∧ (State.launch L).wram = L.initWram ∧ (State.launch L).oam = L.initOam ∧
    (∀ k : Nat, k ∉ [0x00, 0x05, 0x06, 0x07, 0x0F, 0x40, 0x41, 0x44, 0x46, 0xFF] → (k ≠ 0x55 ∨ (State.launch L).color = false) →
      (State.launch L).ioByte k = L.initIo.get ramFill k) ∧
    (∀ a : Word, a.toNat ≤ 0x7FFF → (State.launch L).busRead a = L.rom.getD a.toNat 0xFF) ∧
    (L.wf = true → ∀ i < (State.launch L).eramSize, (State.launch L).eram.get ramFill i =
      match L.save with
      | some blob =>
        if (headerByte L.rom 0x147).toNat ∈ [0x03, 0x06, 0x09, 0x0F, 0x10, 0x13, 0x1B, 0x1E] then
          blob.getD i (L.initEram.get ramFill i)
        else L.initEram.get ramFill i
      | none => L.initEram.get ramFill i) ∧
    (L.wf = true →
      (∀ kv ∈ [(0x00, 0xCF), (0x05, 0x00), (0x06, 0x00), (0x07, 0xF8), (0x0F, 0xE1), (0x40, 0x91), (0x41, 0x85), (0x44, 0x00),
               (0x46, 0xFF), (0xFF, (0x00 : Byte))], (State.launch L).ioByte kv.1 = kv.2) ∧
      ((State.launch L).color = true →
        (State.launch L).busRead 0xFF4D = 0x7E ∧ (State.launch L).busRead 0xFF4F = 0xFE ∧
        (State.launch L).busRead 0xFF70 = 0xF9 ∧ (State.launch L).ioByte 0x55 = 0xFF))

/-- R3, R111, R112: the header's bytes select color mode, the controller and the external RAM size. -/
def Obligations.HeaderSelects : Prop :=
  ∀ L : LaunchInput,
    (let t := (headerByte L.rom 0x147).toNat
     let z := (headerByte L.rom 0x149).toNat
     ((State.launch L).color = true ↔ headerByte L.rom 0x143 = 0x80 ∨ headerByte L.rom 0x143 = 0xC0) ∧
     (State.launch L).cart.variant =
       (if 1 ≤ t ∧ t ≤ 3 then .mbc1 else if 5 ≤ t ∧ t ≤ 6 then .mbc2 else if 0x0F ≤ t ∧ t ≤ 0x13 then .mbc3
        else if 0x19 ≤ t ∧ t ≤ 0x1E then .mbc5 else .plainRom) ∧
     (State.launch L).eramSize =
       (if 5 ≤ t ∧ t ≤ 6 then 512
        else match z with | 1 => 0x800 | 2 => 0x2000 | 3 => 0x8000 | 4 => 0x20000 | 5 => 0x10000 | _ => 0))

/-! ## Invariants -/

/-- Legality is an invariant of every event: a step, and every host action of R407 (a launch from canonical launch contents), takes a legal
state to a legal one. -/
def Obligations.EventsKeepLegal : Prop :=
  ∀ (s t : State) (e : Event), (∀ L, e = .host (.loadRom L) → L.wf = true) → s.legal = true → runEvent s e = .next t →
    t.legal = true

/-- Every launch from canonical launch contents is legal, the state after reset among them. -/
def Obligations.LaunchIsLegal : Prop :=
  (∀ L : LaunchInput, L.wf = true → (State.launch L).legal = true) ∧ State.reset.legal = true

/-- R22, R31, R30, R107: every step keeps the low nibble of F at 0; it keeps WRAM bank 0 away from 0xD000, and in monochrome mode the bank,
speed and HDMA state at their launch values. -/
def Obligations.FlagsAndBanksInvariant : Prop :=
  ∀ s t : State, step s = .next t →
    (s.cpu.f.toNat % 16 = 0 → t.cpu.f.toNat % 16 = 0) ∧ (s.banksWf = true → t.banksWf = true)

/-- R113, R69: no step changes the ROM, the mode, the controller's variant, the RAM size or the parameters. -/
def Obligations.ConfigurationIsFixed : Prop :=
  ∀ s t : State, step s = .next t →
    t.rom = s.rom ∧ t.romLen = s.romLen ∧ t.color = s.color ∧ t.eramSize = s.eramSize ∧ t.params = s.params ∧
    t.cart.variant = s.cart.variant ∧ t.buttons = s.buttons
end

