-- ==== Sys2Proof/Laws/Memory.lean ====
section
/-! SUPPORT. The laws of byte arrays: a read after a write, that a write leaves every other offset alone, that every operation keeps the
canonical form, and that two canonical arrays that read alike are equal. -/

namespace Sys2Proof.Machine

variable {fill v w : Byte} {size lo k j n : Nat} {m m' : Memory}

theorem Memory.get_nil : Memory.get fill [] k = fill := rfl

theorem Memory.get_cons : Memory.get fill ((j, w) :: m) k = if k = j then w else Memory.get fill m k := rfl

theorem Memory.wfFrom_nil : Memory.wfFrom fill size lo [] = true := rfl

theorem Memory.wfFrom_cons :
    Memory.wfFrom fill size lo ((k, v) :: m) = true ↔
      lo ≤ k ∧ k < size ∧ v ≠ fill ∧ Memory.wfFrom fill size (k + 1) m = true := by
  simp [Memory.wfFrom, and_assoc]

/-- A canonical list may be said to start earlier. -/
theorem Memory.wfFrom_mono (h : Memory.wfFrom fill size lo m = true) (hj : j ≤ lo) : Memory.wfFrom fill size j m = true := by
  cases m with
  | nil => rfl
  | cons c m => obtain ⟨k, v⟩ := c; rw [wfFrom_cons] at h ⊢; exact ⟨hj.trans h.1, h.2⟩

/-- Below its first offset a canonical list reads as unlisted. -/
theorem Memory.get_of_lt (h : Memory.wfFrom fill size lo m = true) (hk : k < lo) : Memory.get fill m k = fill := by
  induction m generalizing lo with
  | nil => rfl
  | cons c m ih =>
    obtain ⟨j, w⟩ := c
    rw [wfFrom_cons] at h
    rw [get_cons, if_neg (by omega)]
    exact ih h.2.2.2 (by omega)

/-- Past its size a canonical array reads as unlisted. -/
theorem Memory.get_of_size_le (h : Memory.wfFrom fill size lo m = true) (hk : size ≤ k) : Memory.get fill m k = fill := by
  induction m generalizing lo with
  | nil => rfl
  | cons c m ih =>
    obtain ⟨j, w⟩ := c
    rw [wfFrom_cons] at h
    rw [get_cons, if_neg (by omega)]
    exact ih h.2.2.2

/-- Putting a cell in front: the cell reads as its byte where the rest does not list it. -/
theorem Memory.get_cell (h : Memory.wfFrom fill size (k + 1) m = true) :
    Memory.get fill (Memory.cons fill k v m) j = if j = k then v else Memory.get fill m j := by
  unfold Memory.cons
  split
  · next hv =>
    split
    · next hj => rw [hj, hv]; exact get_of_lt h (by omega)
    · rfl
  · exact get_cons

/-- A cell in front leaves the other offsets alone, whatever the list. -/
theorem Memory.get_cell_ne (hj : j ≠ k) : Memory.get fill (Memory.cons fill k v m) j = Memory.get fill m j := by
  unfold Memory.cons
  split
  · rfl
  · rw [get_cons, if_neg hj]

theorem Memory.wfFrom_cell (h : Memory.wfFrom fill size (k + 1) m = true) (hl : lo ≤ k) (hs : k < size) :
    Memory.wfFrom fill size lo (Memory.cons fill k v m) = true := by
  unfold Memory.cons
  split
  · exact wfFrom_mono h (by omega)
  · next hv => exact wfFrom_cons.2 ⟨hl, hs, hv, h⟩

/-- A write leaves every other offset alone, whatever the list. -/
theorem Memory.get_set_ne (hj : j ≠ k) : Memory.get fill (Memory.set fill m k v) j = Memory.get fill m j := by
  induction m with
  | nil => exact get_cell_ne hj
  | cons c m ih =>
    obtain ⟨i, w⟩ := c
    simp only [Memory.set]
    split
    · exact get_cell_ne hj
    · split
      · next h => subst h; rw [get_cell_ne hj, get_cons, if_neg hj]
      · rw [get_cons, get_cons, ih]

/-- A read after a write of the same offset gives the byte written. -/
theorem Memory.get_set_same (h : Memory.wfFrom fill size lo m = true) : Memory.get fill (Memory.set fill m k v) k = v := by
  induction m generalizing lo with
  | nil => rw [Memory.set, get_cell (size := 0) (m := []) rfl, if_pos rfl]
  | cons c m ih =>
    obtain ⟨i, w⟩ := c
    have h' := wfFrom_cons.1 h
    simp only [Memory.set]
    split
    · next hk => rw [get_cell (size := size), if_pos rfl]; exact wfFrom_cons.2 ⟨by omega, h'.2⟩
    · split
      · next hk => subst hk; rw [get_cell h'.2.2.2, if_pos rfl]
      · next hk => rw [get_cons, if_neg hk]; exact ih h'.2.2.2

/-- Every read after a write. -/
theorem Memory.get_set (h : Memory.wfFrom fill size lo m = true) :
    Memory.get fill (Memory.set fill m k v) j = if j = k then v else Memory.get fill m j := by
  split
  · next hj => subst hj; exact get_set_same h
  · next hj => exact get_set_ne hj

/-- A write inside the array keeps the canonical form. -/
theorem Memory.wfFrom_set (h : Memory.wfFrom fill size lo m = true) (hl : lo ≤ k) (hs : k < size) :
    Memory.wfFrom fill size lo (Memory.set fill m k v) = true := by
  induction m generalizing lo with
  | nil => exact wfFrom_cell rfl hl hs
  | cons c m ih =>
    obtain ⟨i, w⟩ := c
    have h' := wfFrom_cons.1 h
    simp only [Memory.set]
    split
    · next hk => exact wfFrom_cell (wfFrom_cons.2 ⟨by omega, h'.2⟩) hl hs
    · split
      · next hk => subst hk; exact wfFrom_cell h'.2.2.2 hl hs
      · next hk hne => exact wfFrom_cons.2 ⟨h'.1, h'.2.1, h'.2.2.1, ih h'.2.2.2 (by omega)⟩

theorem Memory.wf_set (h : Memory.wf fill size m = true) (hs : k < size) : Memory.wf fill size (Memory.set fill m k v) = true :=
  wfFrom_set h (Nat.zero_le k) hs

/-- Two canonical arrays that read alike at every offset are equal. -/
theorem Memory.ext_wfFrom (h : Memory.wfFrom fill size lo m = true) (h' : Memory.wfFrom fill size n m' = true)
    (hg : ∀ k, Memory.get fill m k = Memory.get fill m' k) : m = m' := by
  induction m generalizing lo n m' with
  | nil =>
    cases m' with
    | nil => rfl
    | cons c m' =>
      obtain ⟨j, w⟩ := c
      have := (wfFrom_cons.1 h').2.2.1
      have hj := hg j
      rw [get_cons, if_pos rfl, get_nil] at hj
      exact absurd hj.symm this
  | cons c m ih =>
    obtain ⟨i, v⟩ := c
    have hi := wfFrom_cons.1 h
    cases m' with
    | nil =>
      have hj := hg i
      rw [get_cons, if_pos rfl, get_nil] at hj
      exact absurd hj hi.2.2.1
    | cons c' m' =>
      obtain ⟨j, w⟩ := c'
      have hj := wfFrom_cons.1 h'
      have hij : i = j := by
        rcases Nat.lt_trichotomy i j with hlt | heq | hgt
        · have hk := hg i
          rw [get_cons, if_pos rfl, get_cons, if_neg (by omega), get_of_lt hj.2.2.2 (by omega)] at hk
          exact absurd hk hi.2.2.1
        · exact heq
        · have hk := hg j
          rw [get_cons, if_neg (by omega), get_cons, if_pos rfl, get_of_lt hi.2.2.2 (by omega)] at hk
          exact absurd hk.symm hj.2.2.1
      subst hij
      have hvw : v = w := by simpa [get_cons] using hg i
      subst hvw
      congr 1
      refine ih hi.2.2.2 hj.2.2.2 fun k => ?_
      by_cases hk : k = i
      · subst hk; rw [get_of_lt hi.2.2.2 (by omega), get_of_lt hj.2.2.2 (by omega)]
      · simpa [get_cons, hk] using hg k

/-- Two canonical arrays that read alike at every offset are equal. -/
theorem Memory.ext_wf (h : Memory.wf fill size m = true) (h' : Memory.wf fill size m' = true)
    (hg : ∀ k, Memory.get fill m k = Memory.get fill m' k) : m = m' :=
  ext_wfFrom h h' hg

/-- Writing what is already there changes nothing. -/
theorem Memory.set_get (h : Memory.wf fill size m = true) (hs : k < size) : Memory.set fill m k (Memory.get fill m k) = m := by
  refine ext_wf (wf_set h hs) h fun j => ?_
  rw [get_set h]
  split
  · next hj => rw [hj]
  · rfl

/-- The later of two writes of one offset stands. -/
theorem Memory.set_set (h : Memory.wf fill size m = true) (hs : k < size) :
    Memory.set fill (Memory.set fill m k v) k w = Memory.set fill m k w := by
  refine ext_wf (wf_set (wf_set h hs) hs) (wf_set h hs) fun j => ?_
  rw [get_set (wf_set h hs), get_set h, get_set h]
  split <;> rfl

/-- Writes of two offsets commute. -/
theorem Memory.set_comm (h : Memory.wf fill size m = true) (hj : j < size) (hk : k < size) (hne : j ≠ k) :
    Memory.set fill (Memory.set fill m j v) k w = Memory.set fill (Memory.set fill m k w) j v := by
  refine ext_wf (wf_set (wf_set h hj) hk) (wf_set (wf_set h hk) hj) fun i => ?_
  rw [get_set (wf_set h hj), get_set h, get_set (wf_set h hk), get_set h]
  by_cases hk : i = k
  · rw [if_pos hk, if_neg (by omega), if_pos hk]
  · rw [if_neg hk, if_neg hk]

/-! ## Byte strings -/

theorem Memory.wfFrom_ofBytes (vs : List Byte) (hs : k + vs.length ≤ size) (hl : lo ≤ k) :
    Memory.wfFrom fill size lo (Memory.ofBytes fill k vs) = true := by
  induction vs generalizing k lo with
  | nil => rfl
  | cons v vs ih =>
    rw [List.length_cons] at hs
    exact wfFrom_cell (ih (by omega) (Nat.le_refl _)) hl (by omega)

/-- A byte string laid out from offset 0 is canonical. -/
theorem Memory.wf_ofBytes (vs : List Byte) : Memory.wf fill vs.length (Memory.ofBytes fill 0 vs) = true :=
  wfFrom_ofBytes vs (by omega) (Nat.le_refl 0)

theorem Memory.get_ofBytes (vs : List Byte) : Memory.get fill (Memory.ofBytes fill k vs) (k + n) = vs.getD n fill := by
  induction vs generalizing k n with
  | nil => rfl
  | cons v vs ih =>
    rw [Memory.ofBytes, get_cell (size := k + 1 + vs.length) (wfFrom_ofBytes vs (by omega) (Nat.le_refl _))]
    cases n with
    | zero => simp
    | succ n =>
      rw [if_neg (by omega), show k + (n + 1) = k + 1 + n by omega, ih]
      simp

theorem Memory.wf_setBytes (vs : List Byte) (h : Memory.wf fill size m = true) :
    Memory.wf fill size (Memory.setBytes fill size m k vs) = true := by
  induction vs generalizing m k with
  | nil => exact h
  | cons v vs ih =>
    refine ih ?_
    split
    · next hk => exact wf_set h hk
    · exact h

theorem Memory.get_setBytes (vs : List Byte) (h : Memory.wf fill size m = true) :
    Memory.get fill (Memory.setBytes fill size m k vs) j =
      if k ≤ j ∧ j < size then vs.getD (j - k) (Memory.get fill m j) else Memory.get fill m j := by
  induction vs generalizing m k with
  | nil => simp [Memory.setBytes]
  | cons v vs ih =>
    have h' : Memory.wf fill size (if k < size then Memory.set fill m k v else m) = true := by
      split
      · next hk => exact wf_set h hk
      · exact h
    rw [Memory.setBytes, ih h']
    have hg : Memory.get fill (if k < size then Memory.set fill m k v else m) j =
        if j = k ∧ k < size then v else Memory.get fill m j := by
      split
      · next hk => simp [get_set h, hk]
      · next hk => simp [hk]
    rw [hg]
    by_cases hjk : j = k
    · subst hjk; by_cases hs : j < size <;> simp [hs]
    · by_cases hlt : k ≤ j
      · have : j - k = j - (k + 1) + 1 := by omega
        have h1 : k + 1 ≤ j := by omega
        simp [hjk, hlt, this, h1]
      · have h1 : ¬ k + 1 ≤ j := by omega
        simp [hjk, hlt, h1]

theorem Memory.length_toBytes : (Memory.toBytes fill m n k).length = n := by
  induction n generalizing k with
  | zero => rfl
  | succ n ih => rw [Memory.toBytes, List.length_cons, ih]

theorem Memory.getD_toBytes (h : j < n) : (Memory.toBytes fill m n k).getD j v = Memory.get fill m (k + j) := by
  induction n generalizing k j with
  | zero => omega
  | succ n ih =>
    cases j with
    | zero => simp [Memory.toBytes]
    | succ j => rw [Memory.toBytes, List.getD_cons_succ, ih (by omega), show k + 1 + j = k + (j + 1) by omega]

/-- Storing an array's own byte string changes nothing. -/
theorem Memory.setBytes_toBytes (h : Memory.wf fill size m = true) :
    Memory.setBytes fill size m 0 (Memory.toBytes fill m size 0) = m := by
  refine ext_wf (wf_setBytes _ h) h fun j => ?_
  rw [get_setBytes _ h]
  split
  · next hj => rw [Nat.sub_zero, getD_toBytes hj.2, Nat.zero_add]
  · rfl

theorem Memory.wf_setCells (cells : List Host.Cell) (h : Memory.wf fill size m = true) (hc : ∀ c ∈ cells, c.1 < size) :
    Memory.wf fill size (Memory.setCells fill m cells) = true := by
  induction cells generalizing m with
  | nil => exact h
  | cons c cells ih =>
    exact ih (wf_set h (hc c (List.mem_cons_self ..))) fun d hd => hc d (List.mem_cons_of_mem _ hd)

theorem Memory.setCells_nil : Memory.setCells fill m [] = m := rfl

theorem Memory.setCells_cons (c : Host.Cell) (cells : List Host.Cell) :
    Memory.setCells fill m (c :: cells) = Memory.setCells fill (Memory.set fill m c.1 c.2) cells := rfl

end Sys2Proof.Machine
end

