-- ==== Sys2Proof/Laws/State.lean ====
section
/-! SUPPORT. One lemma per field per update of the state, true by definition, so that no proof unfolds a record update; the same of the
CPU's own updates. -/

namespace Sys2Proof.Machine

variable (s : State) (g : Cpu → Cpu) (e : Engine → Engine) (k n : Nat) (v : Byte) (w : Word)

/-! ## A change of the CPU register file -/

@[simp] theorem State.mapCpu_cpu : (s.mapCpu g).cpu = g s.cpu := rfl
@[simp] theorem State.mapCpu_engine : (s.mapCpu g).engine = s.engine := rfl
@[simp] theorem State.mapCpu_timer : (s.mapCpu g).timer = s.timer := rfl
@[simp] theorem State.mapCpu_speed : (s.mapCpu g).speed = s.speed := rfl
@[simp] theorem State.mapCpu_hdma : (s.mapCpu g).hdma = s.hdma := rfl
@[simp] theorem State.mapCpu_cart : (s.mapCpu g).cart = s.cart := rfl
@[simp] theorem State.mapCpu_vramBank : (s.mapCpu g).vramBank = s.vramBank := rfl
@[simp] theorem State.mapCpu_wramBank : (s.mapCpu g).wramBank = s.wramBank := rfl
@[simp] theorem State.mapCpu_vram : (s.mapCpu g).vram = s.vram := rfl
@[simp] theorem State.mapCpu_wram : (s.mapCpu g).wram = s.wram := rfl
@[simp] theorem State.mapCpu_oam : (s.mapCpu g).oam = s.oam := rfl
@[simp] theorem State.mapCpu_io : (s.mapCpu g).io = s.io := rfl
@[simp] theorem State.mapCpu_rom : (s.mapCpu g).rom = s.rom := rfl
@[simp] theorem State.mapCpu_romLen : (s.mapCpu g).romLen = s.romLen := rfl
@[simp] theorem State.mapCpu_eram : (s.mapCpu g).eram = s.eram := rfl
@[simp] theorem State.mapCpu_eramSize : (s.mapCpu g).eramSize = s.eramSize := rfl
@[simp] theorem State.mapCpu_color : (s.mapCpu g).color = s.color := rfl
@[simp] theorem State.mapCpu_params : (s.mapCpu g).params = s.params := rfl
@[simp] theorem State.mapCpu_buttons : (s.mapCpu g).buttons = s.buttons := rfl
@[simp] theorem State.mapCpu_paletteOut : (s.mapCpu g).paletteOut = s.paletteOut := rfl
@[simp] theorem State.mapCpu_draws : (s.mapCpu g).draws = s.draws := rfl

/-! ## A change of the engine -/

@[simp] theorem State.mapEngine_cpu : (s.mapEngine e).cpu = s.cpu := rfl
@[simp] theorem State.mapEngine_engine : (s.mapEngine e).engine = e s.engine := rfl
@[simp] theorem State.mapEngine_timer : (s.mapEngine e).timer = s.timer := rfl
@[simp] theorem State.mapEngine_speed : (s.mapEngine e).speed = s.speed := rfl
@[simp] theorem State.mapEngine_hdma : (s.mapEngine e).hdma = s.hdma := rfl
@[simp] theorem State.mapEngine_cart : (s.mapEngine e).cart = s.cart := rfl
@[simp] theorem State.mapEngine_vramBank : (s.mapEngine e).vramBank = s.vramBank := rfl
@[simp] theorem State.mapEngine_wramBank : (s.mapEngine e).wramBank = s.wramBank := rfl
@[simp] theorem State.mapEngine_vram : (s.mapEngine e).vram = s.vram := rfl
@[simp] theorem State.mapEngine_wram : (s.mapEngine e).wram = s.wram := rfl
@[simp] theorem State.mapEngine_oam : (s.mapEngine e).oam = s.oam := rfl
@[simp] theorem State.mapEngine_io : (s.mapEngine e).io = s.io := rfl
@[simp] theorem State.mapEngine_rom : (s.mapEngine e).rom = s.rom := rfl
@[simp] theorem State.mapEngine_romLen : (s.mapEngine e).romLen = s.romLen := rfl
@[simp] theorem State.mapEngine_eram : (s.mapEngine e).eram = s.eram := rfl
@[simp] theorem State.mapEngine_eramSize : (s.mapEngine e).eramSize = s.eramSize := rfl
@[simp] theorem State.mapEngine_color : (s.mapEngine e).color = s.color := rfl
@[simp] theorem State.mapEngine_params : (s.mapEngine e).params = s.params := rfl
@[simp] theorem State.mapEngine_buttons : (s.mapEngine e).buttons = s.buttons := rfl
@[simp] theorem State.mapEngine_paletteOut : (s.mapEngine e).paletteOut = s.paletteOut := rfl
@[simp] theorem State.mapEngine_draws : (s.mapEngine e).draws = s.draws := rfl

/-! ## A write of the I/O file -/

@[simp] theorem State.setIo_cpu : (s.setIo k v).cpu = s.cpu := rfl
@[simp] theorem State.setIo_engine : (s.setIo k v).engine = s.engine := rfl
@[simp] theorem State.setIo_timer : (s.setIo k v).timer = s.timer := rfl
@[simp] theorem State.setIo_speed : (s.setIo k v).speed = s.speed := rfl
@[simp] theorem State.setIo_hdma : (s.setIo k v).hdma = s.hdma := rfl
@[simp] theorem State.setIo_cart : (s.setIo k v).cart = s.cart := rfl
@[simp] theorem State.setIo_vramBank : (s.setIo k v).vramBank = s.vramBank := rfl
@[simp] theorem State.setIo_wramBank : (s.setIo k v).wramBank = s.wramBank := rfl
@[simp] theorem State.setIo_vram : (s.setIo k v).vram = s.vram := rfl
@[simp] theorem State.setIo_wram : (s.setIo k v).wram = s.wram := rfl
@[simp] theorem State.setIo_oam : (s.setIo k v).oam = s.oam := rfl
@[simp] theorem State.setIo_io : (s.setIo k v).io = s.io.set ramFill k v := rfl
@[simp] theorem State.setIo_rom : (s.setIo k v).rom = s.rom := rfl
@[simp] theorem State.setIo_romLen : (s.setIo k v).romLen = s.romLen := rfl
@[simp] theorem State.setIo_eram : (s.setIo k v).eram = s.eram := rfl
@[simp] theorem State.setIo_eramSize : (s.setIo k v).eramSize = s.eramSize := rfl
@[simp] theorem State.setIo_color : (s.setIo k v).color = s.color := rfl
@[simp] theorem State.setIo_params : (s.setIo k v).params = s.params := rfl
@[simp] theorem State.setIo_buttons : (s.setIo k v).buttons = s.buttons := rfl
@[simp] theorem State.setIo_paletteOut : (s.setIo k v).paletteOut = s.paletteOut := rfl
@[simp] theorem State.setIo_draws : (s.setIo k v).draws = s.draws := rfl

/-! ## A write of PC -/

@[simp] theorem State.setPc_cpu : (s.setPc w).cpu = { s.cpu with pc := w } := rfl
@[simp] theorem State.setPc_engine : (s.setPc w).engine = s.engine := rfl
@[simp] theorem State.setPc_timer : (s.setPc w).timer = s.timer := rfl
@[simp] theorem State.setPc_speed : (s.setPc w).speed = s.speed := rfl
@[simp] theorem State.setPc_hdma : (s.setPc w).hdma = s.hdma := rfl
@[simp] theorem State.setPc_cart : (s.setPc w).cart = s.cart := rfl
@[simp] theorem State.setPc_vramBank : (s.setPc w).vramBank = s.vramBank := rfl
@[simp] theorem State.setPc_wramBank : (s.setPc w).wramBank = s.wramBank := rfl
@[simp] theorem State.setPc_vram : (s.setPc w).vram = s.vram := rfl
@[simp] theorem State.setPc_wram : (s.setPc w).wram = s.wram := rfl
@[simp] theorem State.setPc_oam : (s.setPc w).oam = s.oam := rfl
@[simp] theorem State.setPc_io : (s.setPc w).io = s.io := rfl
@[simp] theorem State.setPc_rom : (s.setPc w).rom = s.rom := rfl
@[simp] theorem State.setPc_romLen : (s.setPc w).romLen = s.romLen := rfl
@[simp] theorem State.setPc_eram : (s.setPc w).eram = s.eram := rfl
@[simp] theorem State.setPc_eramSize : (s.setPc w).eramSize = s.eramSize := rfl
@[simp] theorem State.setPc_color : (s.setPc w).color = s.color := rfl
@[simp] theorem State.setPc_params : (s.setPc w).params = s.params := rfl
@[simp] theorem State.setPc_buttons : (s.setPc w).buttons = s.buttons := rfl
@[simp] theorem State.setPc_paletteOut : (s.setPc w).paletteOut = s.paletteOut := rfl
@[simp] theorem State.setPc_draws : (s.setPc w).draws = s.draws := rfl

/-! ## The cycles of a step -/

@[simp] theorem State.setCycles_cpu : (s.setCycles n).cpu = s.cpu := rfl
@[simp] theorem State.setCycles_engine : (s.setCycles n).engine = { s.engine with cycles := n } := rfl
@[simp] theorem State.setCycles_timer : (s.setCycles n).timer = s.timer := rfl
@[simp] theorem State.setCycles_speed : (s.setCycles n).speed = s.speed := rfl
@[simp] theorem State.setCycles_hdma : (s.setCycles n).hdma = s.hdma := rfl
@[simp] theorem State.setCycles_cart : (s.setCycles n).cart = s.cart := rfl
@[simp] theorem State.setCycles_vramBank : (s.setCycles n).vramBank = s.vramBank := rfl
@[simp] theorem State.setCycles_wramBank : (s.setCycles n).wramBank = s.wramBank := rfl
@[simp] theorem State.setCycles_vram : (s.setCycles n).vram = s.vram := rfl
@[simp] theorem State.setCycles_wram : (s.setCycles n).wram = s.wram := rfl
@[simp] theorem State.setCycles_oam : (s.setCycles n).oam = s.oam := rfl
@[simp] theorem State.setCycles_io : (s.setCycles n).io = s.io := rfl
@[simp] theorem State.setCycles_rom : (s.setCycles n).rom = s.rom := rfl
@[simp] theorem State.setCycles_romLen : (s.setCycles n).romLen = s.romLen := rfl
@[simp] theorem State.setCycles_eram : (s.setCycles n).eram = s.eram := rfl
@[simp] theorem State.setCycles_eramSize : (s.setCycles n).eramSize = s.eramSize := rfl
@[simp] theorem State.setCycles_color : (s.setCycles n).color = s.color := rfl
@[simp] theorem State.setCycles_params : (s.setCycles n).params = s.params := rfl
@[simp] theorem State.setCycles_buttons : (s.setCycles n).buttons = s.buttons := rfl
@[simp] theorem State.setCycles_paletteOut : (s.setCycles n).paletteOut = s.paletteOut := rfl
@[simp] theorem State.setCycles_draws : (s.setCycles n).draws = s.draws := rfl

/-! ## A surcharge -/

@[simp] theorem State.addCycles_cpu : (s.addCycles n).cpu = s.cpu := rfl
@[simp] theorem State.addCycles_engine : (s.addCycles n).engine = { s.engine with cycles := s.engine.cycles + n } := rfl
@[simp] theorem State.addCycles_timer : (s.addCycles n).timer = s.timer := rfl
@[simp] theorem State.addCycles_speed : (s.addCycles n).speed = s.speed := rfl
@[simp] theorem State.addCycles_hdma : (s.addCycles n).hdma = s.hdma := rfl
@[simp] theorem State.addCycles_cart : (s.addCycles n).cart = s.cart := rfl
@[simp] theorem State.addCycles_vramBank : (s.addCycles n).vramBank = s.vramBank := rfl
@[simp] theorem State.addCycles_wramBank : (s.addCycles n).wramBank = s.wramBank := rfl
@[simp] theorem State.addCycles_vram : (s.addCycles n).vram = s.vram := rfl
@[simp] theorem State.addCycles_wram : (s.addCycles n).wram = s.wram := rfl
@[simp] theorem State.addCycles_oam : (s.addCycles n).oam = s.oam := rfl
@[simp] theorem State.addCycles_io : (s.addCycles n).io = s.io := rfl
@[simp] theorem State.addCycles_rom : (s.addCycles n).rom = s.rom := rfl
@[simp] theorem State.addCycles_romLen : (s.addCycles n).romLen = s.romLen := rfl
@[simp] theorem State.addCycles_eram : (s.addCycles n).eram = s.eram := rfl
@[simp] theorem State.addCycles_eramSize : (s.addCycles n).eramSize = s.eramSize := rfl
@[simp] theorem State.addCycles_color : (s.addCycles n).color = s.color := rfl
@[simp] theorem State.addCycles_params : (s.addCycles n).params = s.params := rfl
@[simp] theorem State.addCycles_buttons : (s.addCycles n).buttons = s.buttons := rfl
@[simp] theorem State.addCycles_paletteOut : (s.addCycles n).paletteOut = s.paletteOut := rfl
@[simp] theorem State.addCycles_draws : (s.addCycles n).draws = s.draws := rfl

/-! ## A store into VRAM -/

@[simp] theorem State.vramWrite_cpu : (s.vramWrite n v).cpu = s.cpu := rfl
@[simp] theorem State.vramWrite_engine : (s.vramWrite n v).engine = s.engine := rfl
@[simp] theorem State.vramWrite_timer : (s.vramWrite n v).timer = s.timer := rfl
@[simp] theorem State.vramWrite_speed : (s.vramWrite n v).speed = s.speed := rfl
@[simp] theorem State.vramWrite_hdma : (s.vramWrite n v).hdma = s.hdma := rfl
@[simp] theorem State.vramWrite_cart : (s.vramWrite n v).cart = s.cart := rfl
@[simp] theorem State.vramWrite_vramBank : (s.vramWrite n v).vramBank = s.vramBank := rfl
@[simp] theorem State.vramWrite_wramBank : (s.vramWrite n v).wramBank = s.wramBank := rfl
@[simp] theorem State.vramWrite_vram : (s.vramWrite n v).vram = s.vram.set ramFill (s.vramIndex n) v := rfl
@[simp] theorem State.vramWrite_wram : (s.vramWrite n v).wram = s.wram := rfl
@[simp] theorem State.vramWrite_oam : (s.vramWrite n v).oam = s.oam := rfl
@[simp] theorem State.vramWrite_io : (s.vramWrite n v).io = s.io := rfl
@[simp] theorem State.vramWrite_rom : (s.vramWrite n v).rom = s.rom := rfl
@[simp] theorem State.vramWrite_romLen : (s.vramWrite n v).romLen = s.romLen := rfl
@[simp] theorem State.vramWrite_eram : (s.vramWrite n v).eram = s.eram := rfl
@[simp] theorem State.vramWrite_eramSize : (s.vramWrite n v).eramSize = s.eramSize := rfl
@[simp] theorem State.vramWrite_color : (s.vramWrite n v).color = s.color := rfl
@[simp] theorem State.vramWrite_params : (s.vramWrite n v).params = s.params := rfl
@[simp] theorem State.vramWrite_buttons : (s.vramWrite n v).buttons = s.buttons := rfl
@[simp] theorem State.vramWrite_paletteOut : (s.vramWrite n v).paletteOut = s.paletteOut := rfl
@[simp] theorem State.vramWrite_draws : (s.vramWrite n v).draws = s.draws := rfl

/-! ## A request -/

@[simp] theorem State.request_cpu (i : IntSource) : (s.request i).cpu = s.cpu := rfl
@[simp] theorem State.request_engine (i : IntSource) : (s.request i).engine = s.engine := rfl
@[simp] theorem State.request_timer (i : IntSource) : (s.request i).timer = s.timer := rfl
@[simp] theorem State.request_speed (i : IntSource) : (s.request i).speed = s.speed := rfl
@[simp] theorem State.request_hdma (i : IntSource) : (s.request i).hdma = s.hdma := rfl
@[simp] theorem State.request_cart (i : IntSource) : (s.request i).cart = s.cart := rfl
@[simp] theorem State.request_vramBank (i : IntSource) : (s.request i).vramBank = s.vramBank := rfl
@[simp] theorem State.request_wramBank (i : IntSource) : (s.request i).wramBank = s.wramBank := rfl
@[simp] theorem State.request_vram (i : IntSource) : (s.request i).vram = s.vram := rfl
@[simp] theorem State.request_wram (i : IntSource) : (s.request i).wram = s.wram := rfl
@[simp] theorem State.request_oam (i : IntSource) : (s.request i).oam = s.oam := rfl
@[simp] theorem State.request_io (i : IntSource) : (s.request i).io = s.io.set ramFill 0x0F (s.ifByte ||| (1#8 <<< i.bit)) := rfl
@[simp] theorem State.request_rom (i : IntSource) : (s.request i).rom = s.rom := rfl
@[simp] theorem State.request_romLen (i : IntSource) : (s.request i).romLen = s.romLen := rfl
@[simp] theorem State.request_eram (i : IntSource) : (s.request i).eram = s.eram := rfl
@[simp] theorem State.request_eramSize (i : IntSource) : (s.request i).eramSize = s.eramSize := rfl
@[simp] theorem State.request_color (i : IntSource) : (s.request i).color = s.color := rfl
@[simp] theorem State.request_params (i : IntSource) : (s.request i).params = s.params := rfl
@[simp] theorem State.request_buttons (i : IntSource) : (s.request i).buttons = s.buttons := rfl
@[simp] theorem State.request_paletteOut (i : IntSource) : (s.request i).paletteOut = s.paletteOut := rfl
@[simp] theorem State.request_draws (i : IntSource) : (s.request i).draws = s.draws := rfl

/-! ## A read -/

@[simp] theorem State.noteRead_cpu : (s.noteRead w).cpu = s.cpu := by unfold State.noteRead; split <;> rfl
@[simp] theorem State.noteRead_engine : (s.noteRead w).engine = s.engine := by unfold State.noteRead; split <;> rfl
@[simp] theorem State.noteRead_timer : (s.noteRead w).timer = s.timer := by unfold State.noteRead; split <;> rfl
@[simp] theorem State.noteRead_speed : (s.noteRead w).speed = s.speed := by unfold State.noteRead; split <;> rfl
@[simp] theorem State.noteRead_hdma : (s.noteRead w).hdma = s.hdma := by unfold State.noteRead; split <;> rfl
@[simp] theorem State.noteRead_cart : (s.noteRead w).cart = s.cart := by unfold State.noteRead; split <;> rfl
@[simp] theorem State.noteRead_vramBank : (s.noteRead w).vramBank = s.vramBank := by unfold State.noteRead; split <;> rfl
@[simp] theorem State.noteRead_wramBank : (s.noteRead w).wramBank = s.wramBank := by unfold State.noteRead; split <;> rfl
@[simp] theorem State.noteRead_vram : (s.noteRead w).vram = s.vram := by unfold State.noteRead; split <;> rfl
@[simp] theorem State.noteRead_wram : (s.noteRead w).wram = s.wram := by unfold State.noteRead; split <;> rfl
@[simp] theorem State.noteRead_oam : (s.noteRead w).oam = s.oam := by unfold State.noteRead; split <;> rfl
@[simp] theorem State.noteRead_io : (s.noteRead w).io = s.io := by unfold State.noteRead; split <;> rfl
@[simp] theorem State.noteRead_rom : (s.noteRead w).rom = s.rom := by unfold State.noteRead; split <;> rfl
@[simp] theorem State.noteRead_romLen : (s.noteRead w).romLen = s.romLen := by unfold State.noteRead; split <;> rfl
@[simp] theorem State.noteRead_eram : (s.noteRead w).eram = s.eram := by unfold State.noteRead; split <;> rfl
@[simp] theorem State.noteRead_eramSize : (s.noteRead w).eramSize = s.eramSize := by unfold State.noteRead; split <;> rfl
@[simp] theorem State.noteRead_color : (s.noteRead w).color = s.color := by unfold State.noteRead; split <;> rfl
@[simp] theorem State.noteRead_params : (s.noteRead w).params = s.params := by unfold State.noteRead; split <;> rfl
@[simp] theorem State.noteRead_buttons : (s.noteRead w).buttons = s.buttons := by unfold State.noteRead; split <;> rfl
@[simp] theorem State.noteRead_paletteOut : (s.noteRead w).paletteOut = s.paletteOut := by unfold State.noteRead; split <;> rfl
theorem State.noteRead_draws : (s.noteRead w).draws = if s.isDraw w then s.draws + 1 else s.draws := by
  unfold State.noteRead; split <;> rfl

/-! ## The CPU's updates -/

variable (c : Cpu) (r : Reg8) (fl : FlagSet)

@[simp] theorem Cpu.setF_a : (c.setF v).a = c.a := rfl
@[simp] theorem Cpu.setF_f : (c.setF v).f = v &&& 0xF0 := rfl
@[simp] theorem Cpu.setF_b : (c.setF v).b = c.b := rfl
@[simp] theorem Cpu.setF_c : (c.setF v).c = c.c := rfl
@[simp] theorem Cpu.setF_d : (c.setF v).d = c.d := rfl
@[simp] theorem Cpu.setF_e : (c.setF v).e = c.e := rfl
@[simp] theorem Cpu.setF_h : (c.setF v).h = c.h := rfl
@[simp] theorem Cpu.setF_l : (c.setF v).l = c.l := rfl
@[simp] theorem Cpu.setF_sp : (c.setF v).sp = c.sp := rfl
@[simp] theorem Cpu.setF_pc : (c.setF v).pc = c.pc := rfl

@[simp] theorem Cpu.setZNHC_a : (c.setZNHC fl).a = c.a := rfl
@[simp] theorem Cpu.setZNHC_f : (c.setZNHC fl).f = flagByte (fl.z.getD c.flagZ) (fl.n.getD c.flagN) (fl.h.getD c.flagH) (fl.c.getD c.flagC) := rfl
@[simp] theorem Cpu.setZNHC_b : (c.setZNHC fl).b = c.b := rfl
@[simp] theorem Cpu.setZNHC_c : (c.setZNHC fl).c = c.c := rfl
@[simp] theorem Cpu.setZNHC_d : (c.setZNHC fl).d = c.d := rfl
@[simp] theorem Cpu.setZNHC_e : (c.setZNHC fl).e = c.e := rfl
@[simp] theorem Cpu.setZNHC_h : (c.setZNHC fl).h = c.h := rfl
@[simp] theorem Cpu.setZNHC_l : (c.setZNHC fl).l = c.l := rfl
@[simp] theorem Cpu.setZNHC_sp : (c.setZNHC fl).sp = c.sp := rfl
@[simp] theorem Cpu.setZNHC_pc : (c.setZNHC fl).pc = c.pc := rfl

@[simp] theorem Cpu.setHL_a : (c.setHL w).a = c.a := rfl
@[simp] theorem Cpu.setHL_f : (c.setHL w).f = c.f := rfl
@[simp] theorem Cpu.setHL_b : (c.setHL w).b = c.b := rfl
@[simp] theorem Cpu.setHL_c : (c.setHL w).c = c.c := rfl
@[simp] theorem Cpu.setHL_d : (c.setHL w).d = c.d := rfl
@[simp] theorem Cpu.setHL_e : (c.setHL w).e = c.e := rfl
@[simp] theorem Cpu.setHL_h : (c.setHL w).h = hiByte w := rfl
@[simp] theorem Cpu.setHL_l : (c.setHL w).l = loByte w := rfl
@[simp] theorem Cpu.setHL_sp : (c.setHL w).sp = c.sp := rfl
@[simp] theorem Cpu.setHL_pc : (c.setHL w).pc = c.pc := rfl

@[simp] theorem Cpu.setReg_f : (c.setReg r v).f = c.f := by cases r <;> rfl
@[simp] theorem Cpu.setReg_sp : (c.setReg r v).sp = c.sp := by cases r <;> rfl
@[simp] theorem Cpu.setReg_pc : (c.setReg r v).pc = c.pc := by cases r <;> rfl
@[simp] theorem Cpu.setPair_a (p : Pair) : (c.setPair p w).a = c.a := by cases p <;> rfl
@[simp] theorem Cpu.setPair_f (p : Pair) : (c.setPair p w).f = c.f := by cases p <;> rfl
@[simp] theorem Cpu.setPair_pc (p : Pair) : (c.setPair p w).pc = c.pc := by cases p <;> rfl
@[simp] theorem Cpu.setStackPair_sp (p : StackPair) : (c.setStackPair p w).sp = c.sp := by cases p <;> rfl
@[simp] theorem Cpu.setStackPair_pc (p : StackPair) : (c.setStackPair p w).pc = c.pc := by cases p <;> rfl

/-! ## Halves of a pair -/

@[simp] theorem hiByte_join (a b : Byte) : hiByte (join a b) = a := by
  apply BitVec.eq_of_getLsbD_eq
  intro i hi
  simp only [hiByte, join, BitVec.getLsbD_append, BitVec.getLsbD_extractLsb', hi, decide_true, Bool.true_and]
  rw [if_neg (by omega), show 8 + i - 8 = i by omega]

@[simp] theorem loByte_join (a b : Byte) : loByte (join a b) = b := by
  apply BitVec.eq_of_getLsbD_eq
  intro i hi
  simp only [loByte, join, BitVec.getLsbD_append, BitVec.getLsbD_extractLsb', hi, decide_true, Bool.true_and]
  rw [if_pos (by omega), Nat.zero_add]

@[simp] theorem join_hi_lo : join (hiByte w) (loByte w) = w := by
  apply BitVec.eq_of_getLsbD_eq
  intro i hi
  simp only [join, BitVec.getLsbD_append, hiByte, loByte, BitVec.getLsbD_extractLsb']
  split
  · next h => simp [h]
  · next h => simp only [show i - 8 < 8 by omega, show 8 + (i - 8) = i by omega]; simp

end Sys2Proof.Machine
end

