-- ==== Sys2Proof/Laws/Bus.lean ====
section
/-! SUPPORT. The bus: which offset a port of the I/O file has; that no access reads a CPU register or the engine; and what no access
changes. -/

namespace Sys2Proof.Machine

/-! ## The ports -/

/-- The offsets of a port (R82 to R107). -/
def IoPort.At (c : Bool) (k : Nat) : IoPort → Prop
  | .joyp => k = 0x00
  | .div => k = 0x04
  | .tac => k = 0x07
  | .intFlag => k = 0x0F
  | .sound => 0x10 ≤ k ∧ k ≤ 0x3F
  | .stat => k = 0x41
  | .ly => k = 0x44
  | .dma => k = 0x46
  | .key1 => c = true ∧ k = 0x4D
  | .vbk => c = true ∧ k = 0x4F
  | .hdma5 => c = true ∧ k = 0x55
  | .palette => c = true ∧ 0x68 ≤ k ∧ k ≤ 0x6B
  | .svbk => c = true ∧ k = 0x70
  | .plain => (k ≠ 0x00 ∧ k ≠ 0x04 ∧ k ≠ 0x07 ∧ k ≠ 0x0F ∧ ¬(0x10 ≤ k ∧ k ≤ 0x3F) ∧ k ≠ 0x41 ∧ k ≠ 0x44 ∧ k ≠ 0x46) ∧
      (c = true → k ≠ 0x4D ∧ k ≠ 0x4F ∧ k ≠ 0x55 ∧ ¬(0x68 ≤ k ∧ k ≤ 0x6B) ∧ k ≠ 0x70)

/-- Every offset's port stands at that offset. -/
theorem ioPort_at (c : Bool) (k : Nat) : (ioPort c k).At c k := by
  unfold ioPort
  refine iteInduction (motive := IoPort.At c k) (fun h => h) fun h0 => ?_
  refine iteInduction (motive := IoPort.At c k) (fun h => h) fun h1 => ?_
  refine iteInduction (motive := IoPort.At c k) (fun h => h) fun h2 => ?_
  refine iteInduction (motive := IoPort.At c k) (fun h => h) fun h3 => ?_
  refine iteInduction (motive := IoPort.At c k) (fun h => h) fun h4 => ?_
  refine iteInduction (motive := IoPort.At c k) (fun h => h) fun h5 => ?_
  refine iteInduction (motive := IoPort.At c k) (fun h => h) fun h6 => ?_
  refine iteInduction (motive := IoPort.At c k) (fun h => h) fun h7 => ?_
  have hp : k ≠ 0x00 ∧ k ≠ 0x04 ∧ k ≠ 0x07 ∧ k ≠ 0x0F ∧ ¬(0x10 ≤ k ∧ k ≤ 0x3F) ∧ k ≠ 0x41 ∧ k ≠ 0x44 ∧ k ≠ 0x46 :=
    ⟨h0, h1, h2, h3, h4, h5, h6, h7⟩
  refine iteInduction (motive := IoPort.At c k) (fun hc => ?_) fun hc => And.intro hp fun h => absurd h hc
  refine iteInduction (motive := IoPort.At c k) (fun h => And.intro hc h) fun h8 => ?_
  refine iteInduction (motive := IoPort.At c k) (fun h => And.intro hc h) fun h9 => ?_
  refine iteInduction (motive := IoPort.At c k) (fun h => And.intro hc h) fun h10 => ?_
  refine iteInduction (motive := IoPort.At c k) (fun h => And.intro hc h) fun h11 => ?_
  exact iteInduction (motive := IoPort.At c k) (fun h => And.intro hc h)
    fun h12 => And.intro hp fun _ => ⟨h8, h9, h10, h11, h12⟩

theorem ioPort_eq {c : Bool} {k : Nat} {p : IoPort} (h : ioPort c k = p) : p.At c k := h ▸ ioPort_at c k

/-! ## No access reads the CPU or the engine -/

/-- The state with its CPU registers and engine replaced. -/
def State.withCore (s : State) (c : Cpu) (g : Engine) : State := { s with cpu := c, engine := g }

variable (s : State) (c : Cpu) (g : Engine) (a : Word) (v : Byte) (k n i : Nat)

@[simp] theorem withCore_timer : (s.withCore c g).timer = s.timer := (rfl)

@[simp] theorem withCore_speed : (s.withCore c g).speed = s.speed := (rfl)

@[simp] theorem withCore_hdma : (s.withCore c g).hdma = s.hdma := (rfl)

@[simp] theorem withCore_cart : (s.withCore c g).cart = s.cart := (rfl)

@[simp] theorem withCore_vramBank : (s.withCore c g).vramBank = s.vramBank := (rfl)

@[simp] theorem withCore_wramBank : (s.withCore c g).wramBank = s.wramBank := (rfl)

@[simp] theorem withCore_vram : (s.withCore c g).vram = s.vram := (rfl)

@[simp] theorem withCore_wram : (s.withCore c g).wram = s.wram := (rfl)

@[simp] theorem withCore_oam : (s.withCore c g).oam = s.oam := (rfl)

@[simp] theorem withCore_io : (s.withCore c g).io = s.io := (rfl)

@[simp] theorem withCore_rom : (s.withCore c g).rom = s.rom := (rfl)

@[simp] theorem withCore_romLen : (s.withCore c g).romLen = s.romLen := (rfl)

@[simp] theorem withCore_eram : (s.withCore c g).eram = s.eram := (rfl)

@[simp] theorem withCore_eramSize : (s.withCore c g).eramSize = s.eramSize := (rfl)

@[simp] theorem withCore_color : (s.withCore c g).color = s.color := (rfl)

@[simp] theorem withCore_params : (s.withCore c g).params = s.params := (rfl)

@[simp] theorem withCore_buttons : (s.withCore c g).buttons = s.buttons := (rfl)

@[simp] theorem withCore_paletteOut : (s.withCore c g).paletteOut = s.paletteOut := (rfl)

@[simp] theorem withCore_draws : (s.withCore c g).draws = s.draws := (rfl)

@[simp] theorem withCore_cpu : (s.withCore c g).cpu = c := (rfl)

@[simp] theorem withCore_engine : (s.withCore c g).engine = g := (rfl)

theorem romByte_withCore : (s.withCore c g).romByte k = s.romByte k := by
  unfold State.romByte; rw [withCore_romLen, withCore_rom]

theorem eramByte_withCore : (s.withCore c g).eramByte k = s.eramByte k := by
  unfold State.eramByte; rw [withCore_eramSize, withCore_eram]

theorem cartReadRam_withCore : (s.withCore c g).cartReadRam k = s.cartReadRam k := by
  unfold State.cartReadRam; simp only [eramByte_withCore, withCore_cart]

theorem wramIndex_withCore : (s.withCore c g).wramIndex k = s.wramIndex k := by
  unfold State.wramIndex; rw [withCore_wramBank]

theorem vramIndex_withCore : (s.withCore c g).vramIndex k = s.vramIndex k := by
  unfold State.vramIndex; rw [withCore_vramBank]

theorem ioRead_withCore : (s.withCore c g).ioRead k = s.ioRead k := by
  unfold State.ioRead State.ioByte
  rw [withCore_color, withCore_io, withCore_buttons, withCore_draws, withCore_speed, withCore_vramBank, withCore_wramBank]

theorem busRead_withCore : (s.withCore c g).busRead a = s.busRead a := by
  unfold State.busRead
  rw [withCore_cart, withCore_vram, withCore_wram, withCore_oam, withCore_params]
  simp only [romByte_withCore, cartReadRam_withCore, wramIndex_withCore, vramIndex_withCore, ioRead_withCore]

theorem isDraw_withCore : (s.withCore c g).isDraw a = s.isDraw a := by
  simp only [State.isDraw, withCore_color]

theorem noteRead_withCore : (s.withCore c g).noteRead a = (s.noteRead a).withCore c g := by
  unfold State.noteRead; rw [isDraw_withCore]; split <;> rfl

theorem oamCopy_withCore (src : Word) : State.oamCopy src n i (s.withCore c g) = (State.oamCopy src n i s).withCore c g := by
  induction n generalizing s i with
  | zero => rfl
  | succ n ih =>
    rw [State.oamCopy, State.oamCopy, ← ih]
    dsimp only
    rw [busRead_withCore, noteRead_withCore]
    rfl

theorem hdmaCopy_withCore (src : Word) (d : Nat) :
    State.hdmaCopy src d n i (s.withCore c g) = (State.hdmaCopy src d n i s).withCore c g := by
  induction n generalizing s i with
  | zero => rfl
  | succ n ih =>
    rw [State.hdmaCopy, State.hdmaCopy, ← ih]
    rw [busRead_withCore, noteRead_withCore]
    rfl

theorem setIo_withCore : (s.withCore c g).setIo k v = (s.setIo k v).withCore c g := rfl

theorem writeHdma5_withCore : (s.withCore c g).writeHdma5 v = (s.writeHdma5 v).withCore c g := by
  unfold State.writeHdma5
  have h1 : (s.withCore c g).hdma = s.hdma := rfl
  have h2 : (s.withCore c g).hdmaSource = s.hdmaSource := rfl
  have h3 : (s.withCore c g).hdmaDestOffset = s.hdmaDestOffset := rfl
  rw [h1, h2, h3, hdmaCopy_withCore]
  split
  · rfl
  · split <;> rfl

theorem ioWrite_withCore : (s.withCore c g).ioWrite k v = (s.ioWrite k v).withCore c g := by
  unfold State.ioWrite
  have h1 : (s.withCore c g).color = s.color := rfl
  rw [h1]
  cases ioPort s.color k
  case dma => exact oamCopy_withCore (s.setIo 0x46 v) c g _ _ _
  case hdma5 => exact writeHdma5_withCore ..
  all_goals rfl

theorem cartWriteRam_withCore : (s.withCore c g).cartWriteRam k v = (s.cartWriteRam k v).withCore c g := by
  unfold State.cartWriteRam State.eramWrite
  have h1 : (s.withCore c g).cart = s.cart := rfl
  have h2 : (s.withCore c g).eramSize = s.eramSize := rfl
  rw [h1, h2]
  split <;> (repeat' split) <;> rfl

theorem busWrite_withCore : (s.withCore c g).busWrite a v = (s.busWrite a v).withCore c g := by
  unfold State.busWrite
  have h1 : (s.withCore c g).params = s.params := rfl
  rw [h1]
  dsimp only
  split; · rfl
  split; · rfl
  split; · exact cartWriteRam_withCore ..
  split; · rfl
  split; · split <;> rfl
  split; · rfl
  split; · rfl
  exact ioWrite_withCore ..

/-! ## What no access changes -/

variable {s a v k n i}

/-- What no bus access changes: the CPU, the engine, the configuration and the ROM (R69, R113). -/
def State.offBus (s : State) : Cpu × Engine × Memory × Nat × Nat × Bool × Params × Byte × Variant :=
  (s.cpu, s.engine, s.rom, s.romLen, s.eramSize, s.color, s.params, s.buttons, s.cart.variant)

theorem offBus_noteRead : (s.noteRead a).offBus = s.offBus := by
  unfold State.noteRead; split <;> rfl

theorem offBus_oamCopy (src : Word) : (State.oamCopy src n i s).offBus = s.offBus := by
  induction n generalizing s i with
  | zero => rfl
  | succ n ih => rw [State.oamCopy, ih]; exact offBus_noteRead

theorem offBus_hdmaCopy (src : Word) (d : Nat) : (State.hdmaCopy src d n i s).offBus = s.offBus := by
  induction n generalizing s i with
  | zero => rfl
  | succ n ih => rw [State.hdmaCopy, ih]; exact offBus_noteRead

/-- A copy into VRAM changes no transfer state. -/
theorem hdma_hdmaCopy (src : Word) (d : Nat) : (State.hdmaCopy src d n i s).hdma = s.hdma := by
  induction n generalizing s i with
  | zero => rfl
  | succ n ih => rw [State.hdmaCopy, ih]; exact State.noteRead_hdma ..

theorem offBus_writeHdma5 : (s.writeHdma5 v).offBus = s.offBus := by
  unfold State.writeHdma5
  split
  · rfl
  · split
    · exact offBus_hdmaCopy _ _
    · rfl

theorem offBus_ioWrite : (s.ioWrite k v).offBus = s.offBus := by
  unfold State.ioWrite
  cases ioPort s.color k
  case dma => exact offBus_oamCopy (s := s.setIo 0x46 v) _
  case hdma5 => exact offBus_writeHdma5
  all_goals rfl

theorem offBus_cartWriteRam : (s.cartWriteRam k v).offBus = s.offBus := by
  unfold State.cartWriteRam State.eramWrite
  split
  · split <;> rfl
  · repeat' split
    all_goals rfl
  · repeat' split
    all_goals rfl
  · next h =>
    (repeat' split) <;> first | rfl | simp [State.offBus, h, Cart.variant]
  · repeat' split
    all_goals rfl

theorem variant_writeRom (c : Cart) : (c.writeRom k v).variant = c.variant := by
  cases c <;> rfl

theorem offBus_busWrite : (s.busWrite a v).offBus = s.offBus := by
  unfold State.busWrite
  dsimp only
  split; · simp [State.offBus, variant_writeRom]
  split; · rfl
  split; · exact offBus_cartWriteRam
  split; · rfl
  split; · split <;> rfl
  split; · rfl
  split; · rfl
  exact offBus_ioWrite

@[simp] theorem busWrite_cpu : (s.busWrite a v).cpu = s.cpu := congrArg (·.1) (offBus_busWrite (s := s) (a := a) (v := v))

@[simp] theorem busWrite_engine : (s.busWrite a v).engine = s.engine := congrArg (·.2.1) (offBus_busWrite (s := s) (a := a) (v := v))
/-! ## Accesses beside changes of the CPU or the engine -/

variable {f : Cpu → Cpu} {e : Engine → Engine}

theorem mapCpu_eq_withCore : s.mapCpu f = s.withCore (f s.cpu) s.engine := rfl

theorem mapEngine_eq_withCore : s.mapEngine e = s.withCore s.cpu (e s.engine) := rfl

@[simp] theorem busRead_mapCpu : (s.mapCpu f).busRead a = s.busRead a := busRead_withCore ..

@[simp] theorem busRead_mapEngine : (s.mapEngine e).busRead a = s.busRead a := busRead_withCore ..

@[simp] theorem isDraw_mapCpu : (s.mapCpu f).isDraw a = s.isDraw a := isDraw_withCore ..

@[simp] theorem isDraw_mapEngine : (s.mapEngine e).isDraw a = s.isDraw a := isDraw_withCore ..

theorem busWrite_mapCpu : (s.mapCpu f).busWrite a v = (s.busWrite a v).mapCpu f := by
  rw [mapCpu_eq_withCore, busWrite_withCore, mapCpu_eq_withCore, busWrite_cpu, busWrite_engine]

theorem busWrite_mapEngine : (s.mapEngine e).busWrite a v = (s.busWrite a v).mapEngine e := by
  rw [mapEngine_eq_withCore, busWrite_withCore, mapEngine_eq_withCore, busWrite_cpu, busWrite_engine]

theorem noteRead_mapCpu : (s.mapCpu f).noteRead a = (s.noteRead a).mapCpu f := by
  rw [mapCpu_eq_withCore, noteRead_withCore, mapCpu_eq_withCore, State.noteRead_cpu, State.noteRead_engine]

/-- A read moves the draw counter alone. -/
theorem noteRead_eq : s.noteRead a = { s with draws := if s.isDraw a then s.draws + 1 else s.draws } := by
  unfold State.noteRead; split <;> rfl

/-- A read that is no draw changes nothing. -/
theorem noteRead_of_not_draw (h : s.isDraw a = false) : s.noteRead a = s := by
  unfold State.noteRead; rw [h]; rfl

/-- The state with another draw counter. -/
def State.setDraws (s : State) (n : Nat) : State := { s with draws := n }

theorem setDraws_romLen : (s.setDraws n).romLen = s.romLen := (rfl)

theorem setDraws_rom : (s.setDraws n).rom = s.rom := (rfl)

theorem setDraws_eramSize : (s.setDraws n).eramSize = s.eramSize := (rfl)

theorem setDraws_eram : (s.setDraws n).eram = s.eram := (rfl)

theorem setDraws_cart : (s.setDraws n).cart = s.cart := (rfl)

theorem setDraws_vram : (s.setDraws n).vram = s.vram := (rfl)

theorem setDraws_wram : (s.setDraws n).wram = s.wram := (rfl)

theorem setDraws_oam : (s.setDraws n).oam = s.oam := (rfl)

theorem setDraws_params : (s.setDraws n).params = s.params := (rfl)

theorem setDraws_vramBank : (s.setDraws n).vramBank = s.vramBank := (rfl)

theorem setDraws_wramBank : (s.setDraws n).wramBank = s.wramBank := (rfl)

theorem setDraws_color : (s.setDraws n).color = s.color := (rfl)

theorem setDraws_io : (s.setDraws n).io = s.io := (rfl)

theorem setDraws_buttons : (s.setDraws n).buttons = s.buttons := (rfl)

theorem setDraws_speed : (s.setDraws n).speed = s.speed := (rfl)

theorem ioRead_setDraws (h : ioPort s.color k ≠ .sound) (h' : ioPort s.color k ≠ .palette) : (s.setDraws n).ioRead k = s.ioRead k := by
  unfold State.ioRead State.ioByte
  rw [setDraws_color, setDraws_io, setDraws_buttons, setDraws_speed, setDraws_vramBank, setDraws_wramBank]
  cases hp : ioPort s.color k
  case sound => exact absurd hp h
  case palette => exact absurd hp h'
  all_goals rfl

/-- Where a read is no draw, the port is none of the open ones. -/
theorem not_open_of_not_draw (h : s.isDraw a = false) (ha : 0xFF00 ≤ a.toNat) :
    ioPort s.color (a.toNat - 0xFF00) ≠ .sound ∧ ioPort s.color (a.toNat - 0xFF00) ≠ .palette := by
  unfold State.isDraw at h
  rw [decide_eq_true ha, Bool.true_and] at h
  constructor <;> intro hp <;> rw [hp] at h <;> exact absurd h (by decide)

/-- Only a draw reads the draw counter. -/
theorem busRead_setDraws (h : s.isDraw a = false) : (s.setDraws n).busRead a = s.busRead a := by
  unfold State.busRead State.romByte State.cartReadRam State.eramByte State.vramIndex State.wramIndex
  rw [setDraws_cart, setDraws_vram, setDraws_wram, setDraws_oam, setDraws_params, setDraws_romLen, setDraws_rom, setDraws_vramBank,
    setDraws_wramBank, setDraws_eramSize, setDraws_eram]
  dsimp only
  by_cases h1 : a.toNat ≤ 0x7FFF
  · rw [if_pos h1, if_pos h1]
  rw [if_neg h1, if_neg h1]
  by_cases h2 : a.toNat ≤ 0x9FFF
  · rw [if_pos h2, if_pos h2]
  rw [if_neg h2, if_neg h2]
  by_cases h3 : a.toNat ≤ 0xBFFF
  · rw [if_pos h3, if_pos h3]
  rw [if_neg h3, if_neg h3]
  by_cases h4 : a.toNat ≤ 0xDFFF
  · rw [if_pos h4, if_pos h4]
  rw [if_neg h4, if_neg h4]
  by_cases h5 : a.toNat ≤ 0xFDFF
  · rw [if_pos h5, if_pos h5]
  rw [if_neg h5, if_neg h5]
  by_cases h6 : a.toNat ≤ 0xFE9F
  · rw [if_pos h6, if_pos h6]
  rw [if_neg h6, if_neg h6]
  by_cases h7 : a.toNat ≤ 0xFEFF
  · rw [if_pos h7, if_pos h7]
  rw [if_neg h7, if_neg h7]
  have := not_open_of_not_draw h (by omega)
  exact ioRead_setDraws this.1 this.2

theorem noteRead_eq_setDraws : s.noteRead a = s.setDraws (s.noteRead a).draws := by
  unfold State.noteRead; split <;> rfl

theorem isDraw_setDraws : (s.setDraws n).isDraw a = s.isDraw a := by
  simp only [State.isDraw, setDraws_color]

/-- The push of a 16-bit value: two bus writes, the high byte first, and SP two lower (R260). -/
theorem push16_eq (w : Word) : s.push16 w = ((s.busWrite (s.cpu.sp - 1) (hiByte w)).busWrite (s.cpu.sp - 2) (loByte w)).withCore
    { s.cpu with sp := s.cpu.sp - 2 } s.engine := by
  have h2 : s.cpu.sp - 1 - 1 = s.cpu.sp - 2 := by rw [BitVec.sub_sub]; rfl
  unfold State.push16 State.pushByte
  dsimp only
  rw [State.mapCpu_cpu, State.mapCpu_cpu, busWrite_cpu, State.mapCpu_cpu]
  dsimp only
  rw [h2, busWrite_mapCpu, busWrite_mapCpu, busWrite_mapCpu, mapCpu_eq_withCore, mapCpu_eq_withCore]
  rw [withCore_cpu, withCore_engine, busWrite_cpu, busWrite_cpu, busWrite_engine, busWrite_engine]
  dsimp only
  rw [h2]
  rfl

/-- The pop of a 16-bit value: two bus reads, the low byte first (R260). -/
theorem pop16_eq : s.pop16 = join ((s.noteRead s.cpu.sp).busRead (s.cpu.sp + 1)) (s.busRead s.cpu.sp) := by
  unfold State.pop16 State.afterPopByte
  rw [busRead_mapCpu, State.mapCpu_cpu, State.noteRead_cpu]

/-- The state after a pop: SP two higher, and the draw counter past the draws (R260). -/
theorem afterPop16_eq : s.afterPop16 = ((s.noteRead s.cpu.sp).noteRead (s.cpu.sp + 1)).withCore { s.cpu with sp := s.cpu.sp + 2 } s.engine := by
  have h2 : s.cpu.sp + 1 + 1 = s.cpu.sp + 2 := by rw [BitVec.add_assoc]; rfl
  unfold State.afterPop16 State.afterPopByte
  rw [State.mapCpu_cpu, State.noteRead_cpu, noteRead_mapCpu, mapCpu_eq_withCore, mapCpu_eq_withCore]
  rw [withCore_cpu, withCore_engine, State.noteRead_cpu, State.noteRead_cpu, State.noteRead_engine, State.noteRead_engine]
  dsimp only
  rw [h2]
  rfl

end Sys2Proof.Machine
end

