-- ==== Sys2Proof/Laws/Legal.lean ====
section
/-! SUPPORT. What every bus access keeps: the canonical form of the byte arrays, and the invariants of the timer, the banks, the HDMA, STAT
and the cartridge; and that a launch has them all. -/

namespace Sys2Proof.Machine

variable {s : State} {a : Word} {v : Byte} {k n i : Nat}

/-- The part of legality that the bus can touch, as a proposition with named fields. -/
structure State.BusWf (s : State) : Prop where
  vram      : Memory.wf ramFill 0x4000 s.vram = true
  wram      : Memory.wf ramFill 0x8000 s.wram = true
  oam       : Memory.wf ramFill 0xA0 s.oam = true
  io        : Memory.wf ramFill 0x100 s.io = true
  rom       : Memory.wf romFill s.romLen s.rom = true
  eram      : Memory.wf ramFill s.eramSize s.eram = true
  period    : 0 < s.params.divPeriod
  divAcc    : s.timer.divAcc < s.params.divPeriod
  timerAcc  : s.timer.timerAcc < s.timer.threshold.cycles
  threshold : s.timer.threshold = thresholdOf (s.ioByte 0x07)
  wramBank  : s.wramBank ≠ 0
  mono      : s.color = false → s.vramBank = 0 ∧ s.wramBank = 1 ∧ s.speed = Speed.launch ∧ s.hdma = Hdma.launch
  hdmaLen   : s.hdma.len ≤ 128
  hdmaSrc   : s.hdma.src &&& 0x000F = 0
  hdmaDst   : s.hdma.dst &&& 0x000F = 0
  hdmaLow   : 0x8000 ≤ s.hdma.dst.toNat
  hdmaHigh  : s.hdma.dst.toNat < 0xA000
  hdmaLeft  : s.hdma.active = true → s.color = true ∧ 0 < s.hdma.len ∧ s.ioByte 0x55 = BitVec.ofNat 8 (s.hdma.len - 1)
  stat      : (s.ioByte 0x41).getLsbD 7 = true
  cart      : s.cart.variant = .mbc2 → s.eramSize = 512

/-- Legality, taken apart. -/
theorem legal_iff : s.legal = true ↔
    s.params.wf = true ∧ s.flagsMasked = true ∧ s.clockWf = true ∧ s.BusWf := by
  have hp : s.params.wf = true → 0 < s.params.divPeriod := by simp [Params.wf]; omega
  simp only [State.legal, State.memoryWf, State.timerWf, State.banksWf, State.hdmaWf, State.statWf, State.cartWf, Bool.and_eq_true,
    decide_eq_true_eq, Bool.or_eq_true, beq_iff_eq, Bool.not_eq_true']
  constructor
  · rintro ⟨⟨⟨⟨⟨⟨⟨⟨h1, h2⟩, ⟨⟨⟨⟨⟨h3, h4⟩, h5⟩, h6⟩, h7⟩, h8⟩⟩, ⟨⟨h9, h10⟩, h11⟩⟩, ⟨h12, h13⟩⟩,
      ⟨⟨⟨⟨⟨h14, h15⟩, h16⟩, h17⟩, h18⟩, h19⟩⟩, h20⟩, h21⟩, h22⟩
    refine ⟨h1, h2, h20, ⟨h3, h4, h5, h6, h7, h8, hp h1, h9, h10, h11, h12, fun hc => ?_, h14, h15, h16, h17, h18, fun ha => ?_, h21, h22⟩⟩
    · rcases h13 with h | h
      · rw [hc] at h; exact absurd h (by decide)
      · exact ⟨h.1.1.1, h.1.1.2, h.1.2, h.2⟩
    · rcases h19 with h | h
      · rw [ha] at h; exact absurd h (by decide)
      · exact ⟨h.1.1, h.1.2, h.2⟩
  · rintro ⟨h1, h2, h20, h⟩
    refine ⟨⟨⟨⟨⟨⟨⟨⟨h1, h2⟩, ⟨⟨⟨⟨⟨h.vram, h.wram⟩, h.oam⟩, h.io⟩, h.rom⟩, h.eram⟩⟩, ⟨⟨h.divAcc, h.timerAcc⟩, h.threshold⟩⟩,
      ⟨h.wramBank, ?_⟩⟩, ⟨⟨⟨⟨⟨h.hdmaLen, h.hdmaSrc⟩, h.hdmaDst⟩, h.hdmaLow⟩, h.hdmaHigh⟩, ?_⟩⟩, h20⟩, h.stat⟩, h.cart⟩
    · cases hc : s.color
      · have := h.mono hc; exact Or.inr ⟨⟨⟨this.1, this.2.1⟩, this.2.2.1⟩, this.2.2.2⟩
      · exact Or.inl rfl
    · cases ha : s.hdma.active
      · exact Or.inl rfl
      · have := h.hdmaLeft ha; exact Or.inr ⟨⟨this.1, this.2.1⟩, this.2.2⟩

/-- A read of the I/O file after a write of another offset. -/
theorem ioByte_setIo_ne {j : Nat} (h : j ≠ k) : (s.setIo k v).ioByte j = s.ioByte j := Memory.get_set_ne h

/-- A read of the I/O file after a write of the same offset. -/
theorem ioByte_setIo_same (h : Memory.wf ramFill 0x100 s.io = true) : (s.setIo k v).ioByte k = v := Memory.get_set_same h

/-- Storing a byte of the I/O file other than TAC, STAT and HDMA5 keeps the invariants. -/
theorem State.BusWf.setIo (h : s.BusWf) (hk : k < 0x100) (h1 : 0x07 ≠ k) (h2 : 0x41 ≠ k) (h3 : 0x55 ≠ k) : (s.setIo k v).BusWf :=
  { h with
    io := Memory.wf_set h.io hk
    threshold := by rw [ioByte_setIo_ne h1]; exact h.threshold
    hdmaLeft := fun ha => by rw [ioByte_setIo_ne h3]; exact h.hdmaLeft ha
    stat := by rw [ioByte_setIo_ne h2]; exact h.stat }

/-- Storing STAT with its top bit set keeps the invariants. -/
theorem State.BusWf.setStat (h : s.BusWf) (hv : v.getLsbD 7 = true) : (s.setIo 0x41 v).BusWf :=
  { h with
    io := Memory.wf_set h.io (by decide)
    threshold := by rw [ioByte_setIo_ne (by decide)]; exact h.threshold
    hdmaLeft := fun ha => by rw [ioByte_setIo_ne (by decide)]; exact h.hdmaLeft ha
    stat := by rw [ioByte_setIo_same h.io]; exact hv }

/-- The invariants read neither the CPU nor the engine. -/
theorem State.BusWf.withCore (h : s.BusWf) (c : Cpu) (g : Engine) : (s.withCore c g).BusWf := { h with }

theorem State.BusWf.mapCpu (h : s.BusWf) (g : Cpu → Cpu) : (s.mapCpu g).BusWf := { h with }

theorem State.BusWf.mapEngine (h : s.BusWf) (g : Engine → Engine) : (s.mapEngine g).BusWf := { h with }

theorem State.BusWf.noteRead (h : s.BusWf) : (s.noteRead a).BusWf := by
  unfold State.noteRead
  split
  · exact { h with }
  · exact h

theorem vramIndex_lt (hl : 0x8000 ≤ n) (hh : n ≤ 0x9FFF) : s.vramIndex n < 0x4000 := by
  have := s.vramBank.isLt
  unfold State.vramIndex
  omega

theorem wramIndex_lt (hl : 0xC000 ≤ n) (hh : n ≤ 0xDFFF) : s.wramIndex n < 0x8000 := by
  have := s.wramBank.isLt
  unfold State.wramIndex
  split <;> omega

theorem State.BusWf.vramWrite (h : s.BusWf) (hl : 0x8000 ≤ n) (hh : n ≤ 0x9FFF) : (s.vramWrite n v).BusWf :=
  { h with vram := Memory.wf_set h.vram (vramIndex_lt hl hh) }

theorem State.BusWf.setOam (h : s.BusWf) (hk : k < 0xA0) : State.BusWf { s with oam := s.oam.set ramFill k v } :=
  { h with oam := Memory.wf_set h.oam hk }

theorem State.BusWf.oamCopy (src : Word) (h : s.BusWf) (hn : i + n ≤ 0xA0) : (State.oamCopy src n i s).BusWf := by
  induction n generalizing s i with
  | zero => exact h
  | succ n ih =>
    have h' : State.BusWf { s.noteRead (src + BitVec.ofNat 16 i) with
        oam := s.oam.set ramFill i (s.busRead (src + BitVec.ofNat 16 i)) } :=
      { h.noteRead (a := src + BitVec.ofNat 16 i) with oam := Memory.wf_set h.oam (by omega) }
    exact ih h' (by omega)

theorem State.BusWf.hdmaCopy (src : Word) (d : Nat) (h : s.BusWf) : (State.hdmaCopy src d n i s).BusWf := by
  induction n generalizing s i with
  | zero => exact h
  | succ n ih => exact ih (h.noteRead.vramWrite (by omega) (by omega))

theorem State.BusWf.eramWrite (h : s.BusWf) : (s.eramWrite k v).BusWf := by
  unfold State.eramWrite
  split
  · next hk => exact { h with eram := Memory.wf_set h.eram hk }
  · exact h

theorem State.BusWf.setCart (h : s.BusWf) (c : Cart) (hc : c.variant = s.cart.variant) : State.BusWf { s with cart := c } :=
  { h with cart := fun hv => h.cart (hc ▸ hv) }

theorem State.BusWf.cartWriteRam (h : s.BusWf) : (s.cartWriteRam k v).BusWf := by
  unfold State.cartWriteRam
  split
  · exact h.eramWrite
  · split
    · exact h.eramWrite
    · exact h
  · split
    · exact h.eramWrite
    · exact h
  · next hc =>
    split
    · split
      · exact h.eramWrite
      · exact h.setCart _ (by rw [hc]; rfl)
    · exact h
  · split
    · exact h.eramWrite
    · exact h

theorem Threshold.cycles_pos (t : Threshold) : 0 < t.cycles := by cases t <;> decide

theorem State.BusWf.writeTac (h : s.BusWf) : (s.writeTac v).BusWf := by
  have hio := ioByte_setIo_same (k := 0x07) (v := v) h.io
  unfold State.writeTac
  dsimp only
  split
  · next ht =>
    exact { h with
      io := Memory.wf_set h.io (by decide)
      threshold := by rw [← ht]; exact congrArg thresholdOf hio.symm
      hdmaLeft := fun ha => by
        have := ioByte_setIo_ne (s := s) (k := 0x07) (v := v) (j := 0x55) (by decide)
        exact ⟨(h.hdmaLeft ha).1, (h.hdmaLeft ha).2.1, this.trans (h.hdmaLeft ha).2.2⟩
      stat := by
        have := ioByte_setIo_ne (s := s) (k := 0x07) (v := v) (j := 0x41) (by decide)
        exact (congrArg (·.getLsbD 7) this).trans h.stat }
  · exact { h with
      io := Memory.wf_set h.io (by decide)
      timerAcc := Threshold.cycles_pos _
      threshold := congrArg thresholdOf hio.symm
      hdmaLeft := fun ha => by
        have := ioByte_setIo_ne (s := s) (k := 0x07) (v := v) (j := 0x55) (by decide)
        exact ⟨(h.hdmaLeft ha).1, (h.hdmaLeft ha).2.1, this.trans (h.hdmaLeft ha).2.2⟩
      stat := by
        have := ioByte_setIo_ne (s := s) (k := 0x07) (v := v) (j := 0x41) (by decide)
        exact (congrArg (·.getLsbD 7) this).trans h.stat }

/-- Storing HDMA5 keeps the invariants when the transfer state stored with it fits it. -/
theorem State.BusWf.setHdma (h : s.BusWf) (d : Hdma) (hc : s.color = true) (hlen : d.len ≤ 128) (hsrc : d.src &&& 0x000F = 0)
    (hdst : d.dst &&& 0x000F = 0) (hlow : 0x8000 ≤ d.dst.toNat) (hhigh : d.dst.toNat < 0xA000)
    (hleft : d.active = true → 0 < d.len ∧ v = BitVec.ofNat 8 (d.len - 1)) :
    State.BusWf { s.setIo 0x55 v with hdma := d } :=
  { h with
    io := Memory.wf_set h.io (by decide)
    threshold := (h.threshold).trans (congrArg thresholdOf (ioByte_setIo_ne (s := s) (k := 0x55) (v := v) (j := 0x07) (by decide)).symm)
    mono := fun hm => by rw [show s.color = false from hm] at hc; exact absurd hc (by decide)
    hdmaLen := hlen
    hdmaSrc := hsrc
    hdmaDst := hdst
    hdmaLow := hlow
    hdmaHigh := hhigh
    hdmaLeft := fun ha => ⟨hc, (hleft ha).1, (ioByte_setIo_same (s := s) (k := 0x55) h.io).trans (hleft ha).2⟩
    stat := (congrArg (·.getLsbD 7) (ioByte_setIo_ne (s := s) (k := 0x55) (v := v) (j := 0x41) (by decide))).trans h.stat }

theorem hdmaSource_aligned : s.hdmaSource &&& 0x000F = 0 := by
  unfold State.hdmaSource
  rw [BitVec.and_assoc, show (0xFFF0 &&& 0x000F : Word) = 0 by decide]
  exact BitVec.and_zero

/-- The destination offset of HDMA3 and HDMA4: block-aligned and inside a bank. -/
theorem hdmaDestOffset_spec : s.hdmaDestOffset ≤ 0x1FF0 ∧ BitVec.ofNat 16 (0x8000 + s.hdmaDestOffset) &&& 0x000F = 0 := by
  unfold State.hdmaDestOffset
  generalize join (s.ioByte 0x53) (s.ioByte 0x54) = w
  have hle : (w &&& 0x1FF0).toNat ≤ 0x1FF0 := by
    rw [BitVec.toNat_and]; exact Nat.and_le_right
  refine ⟨hle, ?_⟩
  have : BitVec.ofNat 16 (0x8000 + (w &&& 0x1FF0).toNat) = 0x8000 ||| (w &&& 0x1FF0) := by
    rw [← BitVec.add_eq_or_of_and_eq_zero]
    · apply BitVec.eq_of_toNat_eq
      simp [BitVec.toNat_add]
    · rw [BitVec.and_comm w, ← BitVec.and_assoc, show (0x8000 &&& 0x1FF0 : Word) = 0 by decide]
      exact BitVec.zero_and
  rw [this, BitVec.and_comm, BitVec.and_or_distrib_left, BitVec.and_comm w, ← BitVec.and_assoc]
  rw [show (0x000F &&& 0x8000 : Word) = 0 by decide, show (0x000F &&& 0x1FF0 : Word) = 0 by decide]
  simp

theorem toNat_and_7F (v : Byte) : (v &&& 0x7F).toNat < 128 := by
  rw [BitVec.toNat_and]
  exact Nat.lt_of_le_of_lt Nat.and_le_right (by decide)

theorem State.BusWf.writeHdma5 (h : s.BusWf) (hc : s.color = true) : (s.writeHdma5 v).BusWf := by
  unfold State.writeHdma5
  split
  · exact h.setHdma { s.hdma with active := false } hc h.hdmaLen h.hdmaSrc h.hdmaDst h.hdmaLow h.hdmaHigh (fun ha => Bool.noConfusion ha)
  · next hn =>
    split
    · next hv =>
      have ha : s.hdma.active = false := by
        cases hx : s.hdma.active
        · rfl
        · exact absurd (by simp only [hx, Bool.true_and]; exact hv) hn
      have hcopy := h.hdmaCopy s.hdmaSource s.hdmaDestOffset (n := ((v &&& 0x7F).toNat + 1) * 16) (i := 0)
      have hoff := offBus_hdmaCopy (s := s) (n := ((v &&& 0x7F).toNat + 1) * 16) (i := 0) s.hdmaSource s.hdmaDestOffset
      refine hcopy.setHdma (State.hdmaCopy s.hdmaSource s.hdmaDestOffset _ 0 s).hdma ?_ hcopy.hdmaLen hcopy.hdmaSrc hcopy.hdmaDst
        hcopy.hdmaLow hcopy.hdmaHigh fun hx => ?_
      · exact (congrArg (fun t => t.2.2.2.2.2.1) hoff).trans hc
      · rw [hdma_hdmaCopy, ha] at hx; exact absurd hx (by decide)
    · have hd := hdmaDestOffset_spec (s := s)
      refine h.setHdma _ hc ?_ hdmaSource_aligned hd.2 ?_ ?_ fun _ => ⟨Nat.succ_pos _, ?_⟩
      · have := toNat_and_7F v; dsimp only; omega
      · rw [BitVec.toNat_ofNat]; omega
      · rw [BitVec.toNat_ofNat]; omega
      · rw [Nat.add_sub_cancel, BitVec.ofNat_toNat, BitVec.setWidth_eq]

theorem State.BusWf.writeDiv (h : s.BusWf) : s.writeDiv.BusWf :=
  { h.setIo (k := 0x04) (v := 0) (by decide) (by decide) (by decide) (by decide) with
    divAcc := h.period
    timerAcc := Threshold.cycles_pos _ }

/-- A fact of the monochrome mode is out of question in color mode. -/
theorem mono_of_color {p : Prop} (hc : s.color = true) : s.color = false → p := fun hm => by
  rw [hm] at hc; exact absurd hc (by decide)

theorem svbkBank_ne_zero (v : Byte) : svbkBank v ≠ 0 := by
  unfold svbkBank
  split
  · decide
  · assumption

theorem State.BusWf.ioWrite (h : s.BusWf) (hk : k < 0x100) : (s.ioWrite k v).BusWf := by
  have hp := ioPort_at s.color k
  unfold State.ioWrite
  cases hport : ioPort s.color k <;> rw [hport] at hp <;> dsimp only
  case div => exact h.writeDiv
  case tac => exact h.writeTac
  case dma =>
    exact (h.setIo (k := 0x46) (v := v) (by decide) (by decide) (by decide) (by decide)).oamCopy _ (by decide)
  case hdma5 => exact h.writeHdma5 hp.1
  case stat => rw [show k = 0x41 from hp]; exact h.setStat (by simp)
  case key1 => exact { h with mono := mono_of_color hp.1 }
  case vbk => exact { h with mono := mono_of_color hp.1 }
  case svbk => exact { h with mono := mono_of_color hp.1, wramBank := svbkBank_ne_zero v }
  case palette => exact { h.setIo (k := k) (v := v) hk (by have := hp.2; omega) (by have := hp.2; omega) (by have := hp.2; omega) with }
  case joyp => exact h.setIo hk (by rw [show k = 0x00 from hp]; decide) (by rw [show k = 0x00 from hp]; decide) (by rw [show k = 0x00 from hp]; decide)
  case ly => exact h.setIo hk (by rw [show k = 0x44 from hp]; decide) (by rw [show k = 0x44 from hp]; decide) (by rw [show k = 0x44 from hp]; decide)
  case intFlag => exact h.setIo hk (by rw [show k = 0x0F from hp]; decide) (by rw [show k = 0x0F from hp]; decide) (by rw [show k = 0x0F from hp]; decide)
  case sound =>
    have hr : 0x10 ≤ k ∧ k ≤ 0x3F := hp
    exact h.setIo hk (by omega) (by omega) (by omega)
  case plain =>
    have h7 : k ≠ 0x07 := hp.1.2.2.1
    have h41 : k ≠ 0x41 := hp.1.2.2.2.2.2.1
    by_cases h55 : k = 0x55
    · subst h55
      have hc : s.color = false := by
        cases hx : s.color
        · rfl
        · exact absurd rfl (hp.2 hx).2.2.1
      have ha : s.hdma.active = false := by rw [(h.mono hc).2.2.2]; rfl
      exact { h with
        io := Memory.wf_set h.io hk
        threshold := h.threshold.trans (congrArg thresholdOf (ioByte_setIo_ne (s := s) (k := 0x55) (v := v) (j := 0x07) (by decide)).symm)
        hdmaLeft := fun hx => absurd (ha.symm.trans hx) (by decide)
        stat := (congrArg (·.getLsbD 7) (ioByte_setIo_ne (s := s) (k := 0x55) (v := v) (j := 0x41) (by decide))).trans h.stat }
    · exact h.setIo hk (Ne.symm h7) (Ne.symm h41) (Ne.symm h55)

/-- Every bus write keeps the invariants. -/
theorem State.BusWf.busWrite (h : s.BusWf) : (s.busWrite a v).BusWf := by
  have ha := a.isLt
  unfold State.busWrite
  dsimp only
  split
  · exact h.setCart _ (variant_writeRom _)
  split
  · exact h.vramWrite (by omega) (by omega)
  split
  · exact h.cartWriteRam
  split
  · exact { h with wram := Memory.wf_set h.wram (wramIndex_lt (by omega) (by omega)) }
  split
  · split
    · exact h
    · exact { h with wram := Memory.wf_set h.wram (wramIndex_lt (by omega) (by omega)) }
  split
  · exact h.setOam (by omega)
  split
  · exact h
  · exact h.ioWrite (by omega)

end Sys2Proof.Machine
end

