-- ==== Sys2Proof/Laws/Exec.lean ====
section
/-! SUPPORT. The meaning of every instruction by its family, and what an instruction can do: it is a chain of the few actions of `Effect`, so
that a fact which every action keeps holds after every instruction. -/

namespace Sys2Proof.Machine

variable (s : State) (v : Byte) (w : Word)

/-! ## The meaning of each family -/

@[simp] theorem exec_ldReg (q r : Reg8) : exec (.ldReg q r) s = .next (ldReg q r s) := by
  cases q <;> cases r <;> rfl

@[simp] theorem exec_ldImm (r : Reg8) : exec (.ldImm r v) s = .next (ldImm r v s) := by
  cases r <;> rfl

@[simp] theorem exec_ldFromHL (r : Reg8) : exec (.ldFromHL r) s = .next (ldFromHL r s) := by
  cases r <;> rfl

@[simp] theorem exec_ldToHL (r : Reg8) : exec (.ldToHL r) s = .next (ldToHL r s) := by
  cases r <;> rfl

@[simp] theorem exec_aluReg (o : AluOp) (r : Reg8) : exec (.aluReg o r) s = .next (aluWith o (.reg r) s) := by
  cases o <;> cases r <;> rfl

@[simp] theorem exec_aluHL (o : AluOp) : exec (.aluHL o) s = .next (aluWith o .atHL s) := by
  cases o <;> rfl

@[simp] theorem exec_aluImm (o : AluOp) : exec (.aluImm o v) s = .next (aluImm o v s) := by
  cases o <;> rfl

@[simp] theorem exec_incReg (r : Reg8) : exec (.incReg r) s = .next (incOperand (.reg r) s) := by
  cases r <;> rfl

@[simp] theorem exec_decReg (r : Reg8) : exec (.decReg r) s = .next (decOperand (.reg r) s) := by
  cases r <;> rfl

@[simp] theorem exec_ldPair (p : Pair) : exec (.ldPair p w) s = .next (ldPair p w s) := by
  cases p <;> rfl

@[simp] theorem exec_incPair (p : Pair) : exec (.incPair p) s = .next (incPair p s) := by
  cases p <;> rfl

@[simp] theorem exec_decPair (p : Pair) : exec (.decPair p) s = .next (decPair p s) := by
  cases p <;> rfl

@[simp] theorem exec_addHL (p : Pair) : exec (.addHL p) s = .next (addHL p s) := by
  cases p <;> rfl

@[simp] theorem exec_push (p : StackPair) : exec (.push p) s = .next (push p s) := by
  cases p <;> rfl

@[simp] theorem exec_pop (p : StackPair) : exec (.pop p) s = .next (pop p s) := by
  cases p <;> rfl

@[simp] theorem exec_jpCond (k : Cond) : exec (.jpCond k w) s = .next (jumpIf k w s) := by
  cases k <;> rfl

@[simp] theorem exec_jrCond (k : Cond) : exec (.jrCond k v) s = .next (jumpRelativeIf k v s) := by
  cases k <;> rfl

@[simp] theorem exec_callCond (k : Cond) : exec (.callCond k w) s = .next (callIf k w s) := by
  cases k <;> rfl

@[simp] theorem exec_retCond (k : Cond) : exec (.retCond k) s = .next (returnIf k s) := by
  cases k <;> rfl

@[simp] theorem exec_rst (b : Fin 8) : exec (.rst b) s = .next (restart b s) := by
  obtain ⟨b, hb⟩ := b
  interval_cases b <;> rfl

@[simp] theorem exec_illegal (x : Illegal) : exec (.illegal x) s = .next s := by
  cases x <;> rfl

@[simp] theorem exec_rotReg (o : RotOp) (r : Reg8) : exec (.rotReg o r) s = .next (rotateOperand o (.reg r) s) := by
  cases o <;> cases r <;> rfl

@[simp] theorem exec_rotHL (o : RotOp) : exec (.rotHL o) s = .next (rotateOperand o .atHL s) := by
  cases o <;> rfl

@[simp] theorem exec_bitReg (b : Fin 8) (r : Reg8) : exec (.bitReg b r) s = .next (testBit b (.reg r) s) := by
  obtain ⟨b, hb⟩ := b
  interval_cases b <;> cases r <;> rfl

@[simp] theorem exec_bitHL (b : Fin 8) : exec (.bitHL b) s = .next (testBit b .atHL s) := by
  obtain ⟨b, hb⟩ := b
  interval_cases b <;> rfl

@[simp] theorem exec_resReg (b : Fin 8) (r : Reg8) : exec (.resReg b r) s = .next (clearBit b (.reg r) s) := by
  obtain ⟨b, hb⟩ := b
  interval_cases b <;> cases r <;> rfl

@[simp] theorem exec_resHL (b : Fin 8) : exec (.resHL b) s = .next (clearBit b .atHL s) := by
  obtain ⟨b, hb⟩ := b
  interval_cases b <;> rfl

@[simp] theorem exec_setReg (b : Fin 8) (r : Reg8) : exec (.setReg b r) s = .next (setBitOf b (.reg r) s) := by
  obtain ⟨b, hb⟩ := b
  interval_cases b <;> cases r <;> rfl

@[simp] theorem exec_setHL (b : Fin 8) : exec (.setHL b) s = .next (setBitOf b .atHL s) := by
  obtain ⟨b, hb⟩ := b
  interval_cases b <;> rfl

@[simp] theorem exec_ldAtBCA : exec .ldAtBCA s = .next (storeA s.cpu.bc s) := rfl

@[simp] theorem exec_ldAtDEA : exec .ldAtDEA s = .next (storeA s.cpu.de s) := rfl

@[simp] theorem exec_ldAAtBC : exec .ldAAtBC s = .next (loadA s.cpu.bc s) := rfl

@[simp] theorem exec_ldAAtDE : exec .ldAAtDE s = .next (loadA s.cpu.de s) := rfl

@[simp] theorem exec_ldAtHLIncA : exec .ldAtHLIncA s = .next (stepHL 1 (storeA s.cpu.hl s)) := rfl

@[simp] theorem exec_ldAtHLDecA : exec .ldAtHLDecA s = .next (stepHL (-1) (storeA s.cpu.hl s)) := rfl

@[simp] theorem exec_ldAAtHLInc : exec .ldAAtHLInc s = .next (stepHL 1 (loadA s.cpu.hl s)) := rfl

@[simp] theorem exec_ldAAtHLDec : exec .ldAAtHLDec s = .next (stepHL (-1) (loadA s.cpu.hl s)) := rfl

@[simp] theorem exec_ldAtCA : exec .ldAtCA s = .next (storeA (ioPage s.cpu.c) s) := rfl

@[simp] theorem exec_ldAAtC : exec .ldAAtC s = .next (loadA (ioPage s.cpu.c) s) := rfl

@[simp] theorem exec_ldSPHL : exec .ldSPHL s = .next (ldSPFromHL s) := rfl

@[simp] theorem exec_incAtHL : exec .incAtHL s = .next (incOperand .atHL s) := rfl

@[simp] theorem exec_decAtHL : exec .decAtHL s = .next (decOperand .atHL s) := rfl

@[simp] theorem exec_daa : exec .daa s = .next (decimalAdjust s) := rfl

@[simp] theorem exec_cpl : exec .cpl s = .next (complementA s) := rfl

@[simp] theorem exec_scf : exec .scf s = .next (setCarry s) := rfl

@[simp] theorem exec_ccf : exec .ccf s = .next (complementCarry s) := rfl

@[simp] theorem exec_rlca : exec .rlca s = .next (accRotate .rlc s) := rfl

@[simp] theorem exec_rrca : exec .rrca s = .next (accRotate .rrc s) := rfl

@[simp] theorem exec_rla : exec .rla s = .next (accRotate .rl s) := rfl

@[simp] theorem exec_rra : exec .rra s = .next (accRotate .rr s) := rfl

@[simp] theorem exec_jpHL : exec .jpHL s = .next (s.setPc s.cpu.hl) := rfl

@[simp] theorem exec_ret : exec .ret s = .next (s.ret) := rfl

@[simp] theorem exec_reti : exec .reti s = .next (s.returnFromInterrupt) := rfl

@[simp] theorem exec_nop : exec .nop s = .next (s) := rfl

@[simp] theorem exec_halt : exec .halt s = .next (haltCpu s) := rfl

@[simp] theorem exec_di : exec .di s = .next (disableInterrupts s) := rfl

@[simp] theorem exec_ei : exec .ei s = .next (enableInterrupts s) := rfl

@[simp] theorem exec_ldAtHLD8 : exec (.ldAtHLD8 v) s = .next (ldToHLImm v s) := rfl

@[simp] theorem exec_ldhAtA8A : exec (.ldhAtA8A v) s = .next (storeA (ioPage v) s) := rfl

@[simp] theorem exec_ldhAAtA8 : exec (.ldhAAtA8 v) s = .next (loadA (ioPage v) s) := rfl

@[simp] theorem exec_ldAtA16A : exec (.ldAtA16A w) s = .next (storeA w s) := rfl

@[simp] theorem exec_ldAAtA16 : exec (.ldAAtA16 w) s = .next (loadA w s) := rfl

@[simp] theorem exec_ldAtA16SP : exec (.ldAtA16SP w) s = .next (storeSP w s) := rfl

@[simp] theorem exec_ldHLSPE8 : exec (.ldHLSPE8 v) s = .next (ldHLFromSP v s) := rfl

@[simp] theorem exec_addSPE8 : exec (.addSPE8 v) s = .next (addSP v s) := rfl

@[simp] theorem exec_jpA16 : exec (.jpA16 w) s = .next (s.setPc w) := rfl

@[simp] theorem exec_jrE8 : exec (.jrE8 v) s = .next (jumpRelative v s) := rfl

@[simp] theorem exec_callA16 : exec (.callA16 w) s = .next (s.call w) := rfl

@[simp] theorem exec_stop : exec (.stop v) s = .next (stopCpu s) := rfl

@[simp] theorem exec_prefixCb : exec (.prefixCb v) s = .next (cbOperation v s) := rfl

/-! ## Every instruction is of one family -/

/-- To show a fact of every instruction, show it of each family. -/
theorem Instr.byFamily {P : Instr → Prop}
    (ldReg : ∀ q r : Reg8, P (.ldReg q r))
    (ldImm : ∀ (r : Reg8) (v : Byte), P (.ldImm r v))
    (ldFromHL : ∀ r : Reg8, P (.ldFromHL r))
    (ldToHL : ∀ r : Reg8, P (.ldToHL r))
    (aluReg : ∀ (o : AluOp) (r : Reg8), P (.aluReg o r))
    (aluHL : ∀ o : AluOp, P (.aluHL o))
    (aluImm : ∀ (o : AluOp) (v : Byte), P (.aluImm o v))
    (incReg : ∀ r : Reg8, P (.incReg r))
    (decReg : ∀ r : Reg8, P (.decReg r))
    (ldPair : ∀ (p : Pair) (w : Word), P (.ldPair p w))
    (incPair : ∀ p : Pair, P (.incPair p))
    (decPair : ∀ p : Pair, P (.decPair p))
    (addHL : ∀ p : Pair, P (.addHL p))
    (push : ∀ p : StackPair, P (.push p))
    (pop : ∀ p : StackPair, P (.pop p))
    (jpCond : ∀ (k : Cond) (w : Word), P (.jpCond k w))
    (jrCond : ∀ (k : Cond) (v : Byte), P (.jrCond k v))
    (callCond : ∀ (k : Cond) (w : Word), P (.callCond k w))
    (retCond : ∀ k : Cond, P (.retCond k))
    (rst : ∀ y : Fin 8, P (.rst y))
    (illegal : ∀ x : Illegal, P (.illegal x))
    (rotReg : ∀ (o : RotOp) (r : Reg8), P (.rotReg o r))
    (rotHL : ∀ o : RotOp, P (.rotHL o))
    (bitReg : ∀ (b : Fin 8) (r : Reg8), P (.bitReg b r))
    (bitHL : ∀ b : Fin 8, P (.bitHL b))
    (resReg : ∀ (b : Fin 8) (r : Reg8), P (.resReg b r))
    (resHL : ∀ b : Fin 8, P (.resHL b))
    (setReg : ∀ (b : Fin 8) (r : Reg8), P (.setReg b r))
    (setHL : ∀ b : Fin 8, P (.setHL b))
    (ldAtA16SP : ∀ x : Word, P (.ldAtA16SP x))
    (stop : ∀ x : Byte, P (.stop x))
    (jrE8 : ∀ x : Byte, P (.jrE8 x))
    (ldAtHLD8 : ∀ x : Byte, P (.ldAtHLD8 x))
    (jpA16 : ∀ x : Word, P (.jpA16 x))
    (prefixCb : ∀ x : Byte, P (.prefixCb x))
    (callA16 : ∀ x : Word, P (.callA16 x))
    (ldhAtA8A : ∀ x : Byte, P (.ldhAtA8A x))
    (addSPE8 : ∀ x : Byte, P (.addSPE8 x))
    (ldAtA16A : ∀ x : Word, P (.ldAtA16A x))
    (ldhAAtA8 : ∀ x : Byte, P (.ldhAAtA8 x))
    (ldHLSPE8 : ∀ x : Byte, P (.ldHLSPE8 x))
    (ldAAtA16 : ∀ x : Word, P (.ldAAtA16 x))
    (nop : P .nop)
    (ldAtBCA : P .ldAtBCA)
    (rlca : P .rlca)
    (ldAAtBC : P .ldAAtBC)
    (rrca : P .rrca)
    (ldAtDEA : P .ldAtDEA)
    (rla : P .rla)
    (ldAAtDE : P .ldAAtDE)
    (rra : P .rra)
    (ldAtHLIncA : P .ldAtHLIncA)
    (daa : P .daa)
    (ldAAtHLInc : P .ldAAtHLInc)
    (cpl : P .cpl)
    (ldAtHLDecA : P .ldAtHLDecA)
    (incAtHL : P .incAtHL)
    (decAtHL : P .decAtHL)
    (scf : P .scf)
    (ldAAtHLDec : P .ldAAtHLDec)
    (ccf : P .ccf)
    (halt : P .halt)
    (ret : P .ret)
    (reti : P .reti)
    (ldAtCA : P .ldAtCA)
    (jpHL : P .jpHL)
    (ldAAtC : P .ldAAtC)
    (di : P .di)
    (ldSPHL : P .ldSPHL)
    (ei : P .ei) :
    ∀ i : Instr, P i
  | .ldBCD16 x => ldPair .bc x
  | .ldBD8 x => ldImm .b x
  | .ldAtA16SP x => ldAtA16SP x
  | .ldCD8 x => ldImm .c x
  | .stop x => stop x
  | .ldDED16 x => ldPair .de x
  | .ldDD8 x => ldImm .d x
  | .jrE8 x => jrE8 x
  | .ldED8 x => ldImm .e x
  | .jrNZE8 x => jrCond .nz x
  | .ldHLD16 x => ldPair .hl x
  | .ldHD8 x => ldImm .h x
  | .jrZE8 x => jrCond .z x
  | .ldLD8 x => ldImm .l x
  | .jrNCE8 x => jrCond .nc x
  | .ldSPD16 x => ldPair .sp x
  | .ldAtHLD8 x => ldAtHLD8 x
  | .jrCE8 x => jrCond .c x
  | .ldAD8 x => ldImm .a x
  | .jpNZA16 x => jpCond .nz x
  | .jpA16 x => jpA16 x
  | .callNZA16 x => callCond .nz x
  | .addAD8 x => aluImm .add x
  | .jpZA16 x => jpCond .z x
  | .prefixCb x => prefixCb x
  | .callZA16 x => callCond .z x
  | .callA16 x => callA16 x
  | .adcAD8 x => aluImm .adc x
  | .jpNCA16 x => jpCond .nc x
  | .callNCA16 x => callCond .nc x
  | .subD8 x => aluImm .sub x
  | .jpCA16 x => jpCond .c x
  | .callCA16 x => callCond .c x
  | .sbcAD8 x => aluImm .sbc x
  | .ldhAtA8A x => ldhAtA8A x
  | .andD8 x => aluImm .and x
  | .addSPE8 x => addSPE8 x
  | .ldAtA16A x => ldAtA16A x
  | .xorD8 x => aluImm .xor x
  | .ldhAAtA8 x => ldhAAtA8 x
  | .orD8 x => aluImm .or x
  | .ldHLSPE8 x => ldHLSPE8 x
  | .ldAAtA16 x => ldAAtA16 x
  | .cpD8 x => aluImm .cp x
  | .nop => nop
  | .ldAtBCA => ldAtBCA
  | .incBC => incPair .bc
  | .incB => incReg .b
  | .decB => decReg .b
  | .rlca => rlca
  | .addHLBC => addHL .bc
  | .ldAAtBC => ldAAtBC
  | .decBC => decPair .bc
  | .incC => incReg .c
  | .decC => decReg .c
  | .rrca => rrca
  | .ldAtDEA => ldAtDEA
  | .incDE => incPair .de
  | .incD => incReg .d
  | .decD => decReg .d
  | .rla => rla
  | .addHLDE => addHL .de
  | .ldAAtDE => ldAAtDE
  | .decDE => decPair .de
  | .incE => incReg .e
  | .decE => decReg .e
  | .rra => rra
  | .ldAtHLIncA => ldAtHLIncA
  | .incHL => incPair .hl
  | .incH => incReg .h
  | .decH => decReg .h
  | .daa => daa
  | .addHLHL => addHL .hl
  | .ldAAtHLInc => ldAAtHLInc
  | .decHL => decPair .hl
  | .incL => incReg .l
  | .decL => decReg .l
  | .cpl => cpl
  | .ldAtHLDecA => ldAtHLDecA
  | .incSP => incPair .sp
  | .incAtHL => incAtHL
  | .decAtHL => decAtHL
  | .scf => scf
  | .addHLSP => addHL .sp
  | .ldAAtHLDec => ldAAtHLDec
  | .decSP => decPair .sp
  | .incA => incReg .a
  | .decA => decReg .a
  | .ccf => ccf
  | .ldBB => ldReg .b .b
  | .ldBC => ldReg .b .c
  | .ldBD => ldReg .b .d
  | .ldBE => ldReg .b .e
  | .ldBH => ldReg .b .h
  | .ldBL => ldReg .b .l
  | .ldBAtHL => ldFromHL .b
  | .ldBA => ldReg .b .a
  | .ldCB => ldReg .c .b
  | .ldCC => ldReg .c .c
  | .ldCD => ldReg .c .d
  | .ldCE => ldReg .c .e
  | .ldCH => ldReg .c .h
  | .ldCL => ldReg .c .l
  | .ldCAtHL => ldFromHL .c
  | .ldCA => ldReg .c .a
  | .ldDB => ldReg .d .b
  | .ldDC => ldReg .d .c
  | .ldDD => ldReg .d .d
  | .ldDE => ldReg .d .e
  | .ldDH => ldReg .d .h
  | .ldDL => ldReg .d .l
  | .ldDAtHL => ldFromHL .d
  | .ldDA => ldReg .d .a
  | .ldEB => ldReg .e .b
  | .ldEC => ldReg .e .c
  | .ldED => ldReg .e .d
  | .ldEE => ldReg .e .e
  | .ldEH => ldReg .e .h
  | .ldEL => ldReg .e .l
  | .ldEAtHL => ldFromHL .e
  | .ldEA => ldReg .e .a
  | .ldHB => ldReg .h .b
  | .ldHC => ldReg .h .c
  | .ldHD => ldReg .h .d
  | .ldHE => ldReg .h .e
  | .ldHH => ldReg .h .h
  | .ldHL => ldReg .h .l
  | .ldHAtHL => ldFromHL .h
  | .ldHA => ldReg .h .a
  | .ldLB => ldReg .l .b
  | .ldLC => ldReg .l .c
  | .ldLD => ldReg .l .d
  | .ldLE => ldReg .l .e
  | .ldLH => ldReg .l .h
  | .ldLL => ldReg .l .l
  | .ldLAtHL => ldFromHL .l
  | .ldLA => ldReg .l .a
  | .ldAtHLB => ldToHL .b
  | .ldAtHLC => ldToHL .c
  | .ldAtHLD => ldToHL .d
  | .ldAtHLE => ldToHL .e
  | .ldAtHLH => ldToHL .h
  | .ldAtHLL => ldToHL .l
  | .halt => halt
  | .ldAtHLA => ldToHL .a
  | .ldAB => ldReg .a .b
  | .ldAC => ldReg .a .c
  | .ldAD => ldReg .a .d
  | .ldAE => ldReg .a .e
  | .ldAH => ldReg .a .h
  | .ldAL => ldReg .a .l
  | .ldAAtHL => ldFromHL .a
  | .ldAA => ldReg .a .a
  | .addAB => aluReg .add .b
  | .addAC => aluReg .add .c
  | .addAD => aluReg .add .d
  | .addAE => aluReg .add .e
  | .addAH => aluReg .add .h
  | .addAL => aluReg .add .l
  | .addAAtHL => aluHL .add
  | .addAA => aluReg .add .a
  | .adcAB => aluReg .adc .b
  | .adcAC => aluReg .adc .c
  | .adcAD => aluReg .adc .d
  | .adcAE => aluReg .adc .e
  | .adcAH => aluReg .adc .h
  | .adcAL => aluReg .adc .l
  | .adcAAtHL => aluHL .adc
  | .adcAA => aluReg .adc .a
  | .subB => aluReg .sub .b
  | .subC => aluReg .sub .c
  | .subD => aluReg .sub .d
  | .subE => aluReg .sub .e
  | .subH => aluReg .sub .h
  | .subL => aluReg .sub .l
  | .subAtHL => aluHL .sub
  | .subA => aluReg .sub .a
  | .sbcAB => aluReg .sbc .b
  | .sbcAC => aluReg .sbc .c
  | .sbcAD => aluReg .sbc .d
  | .sbcAE => aluReg .sbc .e
  | .sbcAH => aluReg .sbc .h
  | .sbcAL => aluReg .sbc .l
  | .sbcAAtHL => aluHL .sbc
  | .sbcAA => aluReg .sbc .a
  | .andB => aluReg .and .b
  | .andC => aluReg .and .c
  | .andD => aluReg .and .d
  | .andE => aluReg .and .e
  | .andH => aluReg .and .h
  | .andL => aluReg .and .l
  | .andAtHL => aluHL .and
  | .andA => aluReg .and .a
  | .xorB => aluReg .xor .b
  | .xorC => aluReg .xor .c
  | .xorD => aluReg .xor .d
  | .xorE => aluReg .xor .e
  | .xorH => aluReg .xor .h
  | .xorL => aluReg .xor .l
  | .xorAtHL => aluHL .xor
  | .xorA => aluReg .xor .a
  | .orB => aluReg .or .b
  | .orC => aluReg .or .c
  | .orD => aluReg .or .d
  | .orE => aluReg .or .e
  | .orH => aluReg .or .h
  | .orL => aluReg .or .l
  | .orAtHL => aluHL .or
  | .orA => aluReg .or .a
  | .cpB => aluReg .cp .b
  | .cpC => aluReg .cp .c
  | .cpD => aluReg .cp .d
  | .cpE => aluReg .cp .e
  | .cpH => aluReg .cp .h
  | .cpL => aluReg .cp .l
  | .cpAtHL => aluHL .cp
  | .cpA => aluReg .cp .a
  | .retNZ => retCond .nz
  | .popBC => pop .bc
  | .pushBC => push .bc
  | .rst00 => rst 0
  | .retZ => retCond .z
  | .ret => ret
  | .rst08 => rst 1
  | .retNC => retCond .nc
  | .popDE => pop .de
  | .illegalD3 => illegal .d3
  | .pushDE => push .de
  | .rst10 => rst 2
  | .retC => retCond .c
  | .reti => reti
  | .illegalDB => illegal .db
  | .illegalDD => illegal .dd
  | .rst18 => rst 3
  | .popHL => pop .hl
  | .ldAtCA => ldAtCA
  | .illegalE3 => illegal .e3
  | .illegalE4 => illegal .e4
  | .pushHL => push .hl
  | .rst20 => rst 4
  | .jpHL => jpHL
  | .illegalEB => illegal .eb
  | .illegalEC => illegal .ec
  | .illegalED => illegal .ed
  | .rst28 => rst 5
  | .popAF => pop .af
  | .ldAAtC => ldAAtC
  | .di => di
  | .illegalF4 => illegal .f4
  | .pushAF => push .af
  | .rst30 => rst 6
  | .ldSPHL => ldSPHL
  | .ei => ei
  | .illegalFC => illegal .fc
  | .illegalFD => illegal .fd
  | .rst38 => rst 7
  | .rlcB => rotReg .rlc .b
  | .rlcC => rotReg .rlc .c
  | .rlcD => rotReg .rlc .d
  | .rlcE => rotReg .rlc .e
  | .rlcH => rotReg .rlc .h
  | .rlcL => rotReg .rlc .l
  | .rlcAtHL => rotHL .rlc
  | .rlcA => rotReg .rlc .a
  | .rrcB => rotReg .rrc .b
  | .rrcC => rotReg .rrc .c
  | .rrcD => rotReg .rrc .d
  | .rrcE => rotReg .rrc .e
  | .rrcH => rotReg .rrc .h
  | .rrcL => rotReg .rrc .l
  | .rrcAtHL => rotHL .rrc
  | .rrcA => rotReg .rrc .a
  | .rlB => rotReg .rl .b
  | .rlC => rotReg .rl .c
  | .rlD => rotReg .rl .d
  | .rlE => rotReg .rl .e
  | .rlH => rotReg .rl .h
  | .rlL => rotReg .rl .l
  | .rlAtHL => rotHL .rl
  | .rlA => rotReg .rl .a
  | .rrB => rotReg .rr .b
  | .rrC => rotReg .rr .c
  | .rrD => rotReg .rr .d
  | .rrE => rotReg .rr .e
  | .rrH => rotReg .rr .h
  | .rrL => rotReg .rr .l
  | .rrAtHL => rotHL .rr
  | .rrA => rotReg .rr .a
  | .slaB => rotReg .sla .b
  | .slaC => rotReg .sla .c
  | .slaD => rotReg .sla .d
  | .slaE => rotReg .sla .e
  | .slaH => rotReg .sla .h
  | .slaL => rotReg .sla .l
  | .slaAtHL => rotHL .sla
  | .slaA => rotReg .sla .a
  | .sraB => rotReg .sra .b
  | .sraC => rotReg .sra .c
  | .sraD => rotReg .sra .d
  | .sraE => rotReg .sra .e
  | .sraH => rotReg .sra .h
  | .sraL => rotReg .sra .l
  | .sraAtHL => rotHL .sra
  | .sraA => rotReg .sra .a
  | .swapB => rotReg .swap .b
  | .swapC => rotReg .swap .c
  | .swapD => rotReg .swap .d
  | .swapE => rotReg .swap .e
  | .swapH => rotReg .swap .h
  | .swapL => rotReg .swap .l
  | .swapAtHL => rotHL .swap
  | .swapA => rotReg .swap .a
  | .srlB => rotReg .srl .b
  | .srlC => rotReg .srl .c
  | .srlD => rotReg .srl .d
  | .srlE => rotReg .srl .e
  | .srlH => rotReg .srl .h
  | .srlL => rotReg .srl .l
  | .srlAtHL => rotHL .srl
  | .srlA => rotReg .srl .a
  | .bit0B => bitReg 0 .b
  | .bit0C => bitReg 0 .c
  | .bit0D => bitReg 0 .d
  | .bit0E => bitReg 0 .e
  | .bit0H => bitReg 0 .h
  | .bit0L => bitReg 0 .l
  | .bit0AtHL => bitHL 0
  | .bit0A => bitReg 0 .a
  | .bit1B => bitReg 1 .b
  | .bit1C => bitReg 1 .c
  | .bit1D => bitReg 1 .d
  | .bit1E => bitReg 1 .e
  | .bit1H => bitReg 1 .h
  | .bit1L => bitReg 1 .l
  | .bit1AtHL => bitHL 1
  | .bit1A => bitReg 1 .a
  | .bit2B => bitReg 2 .b
  | .bit2C => bitReg 2 .c
  | .bit2D => bitReg 2 .d
  | .bit2E => bitReg 2 .e
  | .bit2H => bitReg 2 .h
  | .bit2L => bitReg 2 .l
  | .bit2AtHL => bitHL 2
  | .bit2A => bitReg 2 .a
  | .bit3B => bitReg 3 .b
  | .bit3C => bitReg 3 .c
  | .bit3D => bitReg 3 .d
  | .bit3E => bitReg 3 .e
  | .bit3H => bitReg 3 .h
  | .bit3L => bitReg 3 .l
  | .bit3AtHL => bitHL 3
  | .bit3A => bitReg 3 .a
  | .bit4B => bitReg 4 .b
  | .bit4C => bitReg 4 .c
  | .bit4D => bitReg 4 .d
  | .bit4E => bitReg 4 .e
  | .bit4H => bitReg 4 .h
  | .bit4L => bitReg 4 .l
  | .bit4AtHL => bitHL 4
  | .bit4A => bitReg 4 .a
  | .bit5B => bitReg 5 .b
  | .bit5C => bitReg 5 .c
  | .bit5D => bitReg 5 .d
  | .bit5E => bitReg 5 .e
  | .bit5H => bitReg 5 .h
  | .bit5L => bitReg 5 .l
  | .bit5AtHL => bitHL 5
  | .bit5A => bitReg 5 .a
  | .bit6B => bitReg 6 .b
  | .bit6C => bitReg 6 .c
  | .bit6D => bitReg 6 .d
  | .bit6E => bitReg 6 .e
  | .bit6H => bitReg 6 .h
  | .bit6L => bitReg 6 .l
  | .bit6AtHL => bitHL 6
  | .bit6A => bitReg 6 .a
  | .bit7B => bitReg 7 .b
  | .bit7C => bitReg 7 .c
  | .bit7D => bitReg 7 .d
  | .bit7E => bitReg 7 .e
  | .bit7H => bitReg 7 .h
  | .bit7L => bitReg 7 .l
  | .bit7AtHL => bitHL 7
  | .bit7A => bitReg 7 .a
  | .res0B => resReg 0 .b
  | .res0C => resReg 0 .c
  | .res0D => resReg 0 .d
  | .res0E => resReg 0 .e
  | .res0H => resReg 0 .h
  | .res0L => resReg 0 .l
  | .res0AtHL => resHL 0
  | .res0A => resReg 0 .a
  | .res1B => resReg 1 .b
  | .res1C => resReg 1 .c
  | .res1D => resReg 1 .d
  | .res1E => resReg 1 .e
  | .res1H => resReg 1 .h
  | .res1L => resReg 1 .l
  | .res1AtHL => resHL 1
  | .res1A => resReg 1 .a
  | .res2B => resReg 2 .b
  | .res2C => resReg 2 .c
  | .res2D => resReg 2 .d
  | .res2E => resReg 2 .e
  | .res2H => resReg 2 .h
  | .res2L => resReg 2 .l
  | .res2AtHL => resHL 2
  | .res2A => resReg 2 .a
  | .res3B => resReg 3 .b
  | .res3C => resReg 3 .c
  | .res3D => resReg 3 .d
  | .res3E => resReg 3 .e
  | .res3H => resReg 3 .h
  | .res3L => resReg 3 .l
  | .res3AtHL => resHL 3
  | .res3A => resReg 3 .a
  | .res4B => resReg 4 .b
  | .res4C => resReg 4 .c
  | .res4D => resReg 4 .d
  | .res4E => resReg 4 .e
  | .res4H => resReg 4 .h
  | .res4L => resReg 4 .l
  | .res4AtHL => resHL 4
  | .res4A => resReg 4 .a
  | .res5B => resReg 5 .b
  | .res5C => resReg 5 .c
  | .res5D => resReg 5 .d
  | .res5E => resReg 5 .e
  | .res5H => resReg 5 .h
  | .res5L => resReg 5 .l
  | .res5AtHL => resHL 5
  | .res5A => resReg 5 .a
  | .res6B => resReg 6 .b
  | .res6C => resReg 6 .c
  | .res6D => resReg 6 .d
  | .res6E => resReg 6 .e
  | .res6H => resReg 6 .h
  | .res6L => resReg 6 .l
  | .res6AtHL => resHL 6
  | .res6A => resReg 6 .a
  | .res7B => resReg 7 .b
  | .res7C => resReg 7 .c
  | .res7D => resReg 7 .d
  | .res7E => resReg 7 .e
  | .res7H => resReg 7 .h
  | .res7L => resReg 7 .l
  | .res7AtHL => resHL 7
  | .res7A => resReg 7 .a
  | .set0B => setReg 0 .b
  | .set0C => setReg 0 .c
  | .set0D => setReg 0 .d
  | .set0E => setReg 0 .e
  | .set0H => setReg 0 .h
  | .set0L => setReg 0 .l
  | .set0AtHL => setHL 0
  | .set0A => setReg 0 .a
  | .set1B => setReg 1 .b
  | .set1C => setReg 1 .c
  | .set1D => setReg 1 .d
  | .set1E => setReg 1 .e
  | .set1H => setReg 1 .h
  | .set1L => setReg 1 .l
  | .set1AtHL => setHL 1
  | .set1A => setReg 1 .a
  | .set2B => setReg 2 .b
  | .set2C => setReg 2 .c
  | .set2D => setReg 2 .d
  | .set2E => setReg 2 .e
  | .set2H => setReg 2 .h
  | .set2L => setReg 2 .l
  | .set2AtHL => setHL 2
  | .set2A => setReg 2 .a
  | .set3B => setReg 3 .b
  | .set3C => setReg 3 .c
  | .set3D => setReg 3 .d
  | .set3E => setReg 3 .e
  | .set3H => setReg 3 .h
  | .set3L => setReg 3 .l
  | .set3AtHL => setHL 3
  | .set3A => setReg 3 .a
  | .set4B => setReg 4 .b
  | .set4C => setReg 4 .c
  | .set4D => setReg 4 .d
  | .set4E => setReg 4 .e
  | .set4H => setReg 4 .h
  | .set4L => setReg 4 .l
  | .set4AtHL => setHL 4
  | .set4A => setReg 4 .a
  | .set5B => setReg 5 .b
  | .set5C => setReg 5 .c
  | .set5D => setReg 5 .d
  | .set5E => setReg 5 .e
  | .set5H => setReg 5 .h
  | .set5L => setReg 5 .l
  | .set5AtHL => setHL 5
  | .set5A => setReg 5 .a
  | .set6B => setReg 6 .b
  | .set6C => setReg 6 .c
  | .set6D => setReg 6 .d
  | .set6E => setReg 6 .e
  | .set6H => setReg 6 .h
  | .set6L => setReg 6 .l
  | .set6AtHL => setHL 6
  | .set6A => setReg 6 .a
  | .set7B => setReg 7 .b
  | .set7C => setReg 7 .c
  | .set7D => setReg 7 .d
  | .set7E => setReg 7 .e
  | .set7H => setReg 7 .h
  | .set7L => setReg 7 .l
  | .set7AtHL => setHL 7
  | .set7A => setReg 7 .a

/-! ## What an instruction can do -/

/-- A chain of the actions an instruction is made of: a read, a bus write, a change of CPU registers that leaves F masked, a change of the
engine that leaves the clock, and the speed switch of color mode. -/
inductive Effect : State → State → Prop where
  | refl (s : State) : Effect s s
  | read {s t : State} (a : Word) (h : Effect s t) : Effect s (t.noteRead a)
  | write {s t : State} (a : Word) (v : Byte) (h : Effect s t) : Effect s (t.busWrite a v)
  | cpu {s t : State} (g : Cpu → Cpu) (hg : ∀ c, (g c).f = c.f ∨ (g c).f &&& 0x0F = 0) (h : Effect s t) : Effect s (t.mapCpu g)
  | engine {s t : State} (g : Engine → Engine) (hg : ∀ e, (g e).clockT = e.clockT ∧ (g e).clockM = e.clockM) (h : Effect s t) :
      Effect s (t.mapEngine g)
  | speed {s t : State} (x : Speed) (hc : t.color = true) (h : Effect s t) : Effect s { t with speed := x }

variable {s t : State} {v : Byte} {w : Word}

/-- The flags a micro-operation writes leave the low nibble of F 0. -/
theorem flagByte_low (z n h c : Bool) : flagByte z n h c &&& 0x0F = 0 := by
  cases z <;> cases n <;> cases h <;> cases c <;> decide

theorem setF_low (c : Cpu) (v : Byte) : (c.setF v).f &&& 0x0F = 0 := by
  rw [Cpu.setF_f, BitVec.and_assoc]
  exact BitVec.and_zero

theorem Effect.setZNHC (fl : FlagSet) (h : Effect s t) : Effect s (t.mapCpu fun c => c.setZNHC fl) :=
  .cpu _ (fun _ => Or.inr (flagByte_low ..)) h

theorem Effect.setReg (r : Reg8) (x : Cpu → Byte) (h : Effect s t) : Effect s (t.mapCpu fun c => c.setReg r (x c)) :=
  .cpu _ (fun c => Or.inl (Cpu.setReg_f (x c) c r)) h

theorem Effect.setPair (p : Pair) (x : Cpu → Word) (h : Effect s t) : Effect s (t.mapCpu fun c => c.setPair p (x c)) :=
  .cpu _ (fun c => Or.inl (Cpu.setPair_f (x c) c p)) h

theorem Effect.setPc (h : Effect s t) : Effect s (t.setPc w) := .cpu _ (fun _ => Or.inl rfl) h

theorem Effect.addCycles (n : Nat) (h : Effect s t) : Effect s (t.addCycles n) := .engine _ (fun _ => ⟨rfl, rfl⟩) h

theorem Effect.noteOperand (k : Operand8) (h : Effect s t) : Effect s (t.noteOperand k) := by
  cases k
  · exact h
  · exact .read _ h

theorem Effect.writeOperand (k : Operand8) (h : Effect s t) : Effect s (t.writeOperand k v) := by
  cases k
  · exact h.setReg _ fun _ => v
  · exact .write _ _ h

theorem Effect.modifyOperand (g : Byte → Bool → MicroOut) (k : Operand8) : Effect s (modifyOperand g k s) :=
  (((Effect.refl s).noteOperand k).writeOperand k).setZNHC _

theorem Effect.writeA (m : Cpu → MicroOut) (h : Effect s t) : Effect s (t.mapCpu fun c => c.writeA (m c)) :=
  .cpu _ (fun _ => Or.inr (flagByte_low ..)) h

theorem Effect.pushByte (h : Effect s t) : Effect s (t.pushByte v) := .write _ _ (.cpu _ (fun _ => Or.inl rfl) h)

theorem Effect.push16 (h : Effect s t) : Effect s (t.push16 w) := h.pushByte.pushByte

theorem Effect.call (h : Effect s t) : Effect s (t.call w) := h.push16.setPc

theorem Effect.afterPopByte (h : Effect s t) : Effect s t.afterPopByte := .cpu _ (fun _ => Or.inl rfl) (.read _ h)

theorem Effect.afterPop16 (h : Effect s t) : Effect s t.afterPop16 := h.afterPopByte.afterPopByte

theorem Effect.ret (h : Effect s t) : Effect s t.ret := h.afterPop16.setPc

theorem Effect.loadA : Effect s (loadA w s) := .cpu _ (fun _ => Or.inl rfl) (.read _ (.refl s))

theorem Effect.storeA : Effect s (storeA w s) := .write _ _ (.refl s)

theorem Effect.stepHL (h : Effect s t) : Effect s (stepHL w t) := .cpu _ (fun _ => Or.inl rfl) h

theorem Effect.accRotate (o : RotOp) : Effect s (accRotate o s) := by
  unfold Machine.accRotate
  exact .cpu (fun c => c.writeA _) (fun _ => Or.inr (flagByte_low ..)) (.refl s)

theorem Effect.testBit (b : Fin 8) (k : Operand8) : Effect s (testBit b k s) := ((Effect.refl s).noteOperand k).setZNHC _

theorem Effect.clearBit (b : Fin 8) (k : Operand8) : Effect s (clearBit b k s) := ((Effect.refl s).noteOperand k).writeOperand k

theorem Effect.setBitOf (b : Fin 8) (k : Operand8) : Effect s (setBitOf b k s) := ((Effect.refl s).noteOperand k).writeOperand k

theorem Effect.setStackPair (p : StackPair) (h : Effect s t) : Effect s (t.mapCpu fun c => c.setStackPair p w) := by
  cases p
  case af => exact .cpu _ (fun c => Or.inr (setF_low { c with a := hiByte w } _)) h
  all_goals exact .cpu _ (fun _ => Or.inl rfl) h

theorem Effect.jumpIf (k : Cond) : Effect s (jumpIf k w s) := by
  unfold Machine.jumpIf; split
  · exact (Effect.refl s).setPc.addCycles 4
  · exact .refl s

theorem Effect.jumpRelativeIf (k : Cond) : Effect s (jumpRelativeIf k v s) := by
  unfold Machine.jumpRelativeIf; split
  · exact (Effect.refl s).setPc.addCycles 4
  · exact .refl s

theorem Effect.callIf (k : Cond) : Effect s (callIf k w s) := by
  unfold Machine.callIf; split
  · exact (Effect.refl s).call.addCycles 12
  · exact .refl s

theorem Effect.returnIf (k : Cond) : Effect s (returnIf k s) := by
  unfold Machine.returnIf; split
  · exact (Effect.refl s).ret.addCycles 12
  · exact .refl s

theorem Effect.stopCpu : Effect s (stopCpu s) := by
  unfold Machine.stopCpu; split
  · next h => exact .speed _ (by simp only [Bool.and_eq_true] at h; exact h.1) (.engine _ (fun _ => ⟨rfl, rfl⟩) (.refl s))
  · exact .engine _ (fun _ => ⟨rfl, rfl⟩) (.refl s)

theorem Effect.cbOperation : Effect s (cbOperation v s) := by
  unfold Machine.cbOperation
  dsimp only
  split
  · exact .modifyOperand ..
  · exact .testBit ..
  · exact .clearBit ..
  · exact .setBitOf ..

/-- What an instruction can do: it completes, by a chain of the actions above. -/
theorem exec_effect (i : Instr) (s : State) : ∃ t, exec i s = .next t ∧ Effect s t := by
  revert i
  refine Instr.byFamily ?ldReg ?ldImm ?ldFromHL ?ldToHL ?aluReg ?aluHL ?aluImm ?incReg ?decReg ?ldPair ?incPair ?decPair ?addHL ?push
    ?pop ?jpCond ?jrCond ?callCond ?retCond ?rst ?illegal ?rotReg ?rotHL ?bitReg ?bitHL ?resReg ?resHL ?setReg ?setHL 
    ?ldAtA16SP ?stop ?jrE8 ?ldAtHLD8 ?jpA16 ?prefixCb ?callA16 ?ldhAtA8A ?addSPE8 ?ldAtA16A ?ldhAAtA8 ?ldHLSPE8 ?ldAAtA16
    ?nop ?ldAtBCA ?rlca ?ldAAtBC ?rrca ?ldAtDEA ?rla ?ldAAtDE ?rra ?ldAtHLIncA ?daa ?ldAAtHLInc ?cpl ?ldAtHLDecA
    ?incAtHL ?decAtHL ?scf ?ldAAtHLDec ?ccf ?halt ?ret ?reti ?ldAtCA ?jpHL ?ldAAtC ?di ?ldSPHL ?ei
  all_goals intros
  case ldReg q r => exact ⟨_, exec_ldReg .., (Effect.refl s).setReg q fun c => c.reg r⟩
  case ldImm r v => exact ⟨_, exec_ldImm .., (Effect.refl s).setReg r fun _ => v⟩
  case ldFromHL r => exact ⟨_, exec_ldFromHL .., Effect.setReg r (fun _ => _) (.read _ (.refl s))⟩
  case ldToHL => exact ⟨_, exec_ldToHL .., .write _ _ (.refl s)⟩
  case aluReg o r => exact ⟨_, exec_aluReg .., Effect.writeA _ ((Effect.refl s).noteOperand (.reg r))⟩
  case aluHL => exact ⟨_, exec_aluHL .., Effect.writeA _ ((Effect.refl s).noteOperand .atHL)⟩
  case aluImm => exact ⟨_, exec_aluImm .., Effect.writeA _ (.refl s)⟩
  case incReg => exact ⟨_, exec_incReg .., .modifyOperand ..⟩
  case decReg => exact ⟨_, exec_decReg .., .modifyOperand ..⟩
  case ldPair p w => exact ⟨_, exec_ldPair .., (Effect.refl s).setPair p fun _ => w⟩
  case incPair p => exact ⟨_, exec_incPair .., (Effect.refl s).setPair p fun c => c.pair p + 1⟩
  case decPair p => exact ⟨_, exec_decPair .., (Effect.refl s).setPair p fun c => c.pair p - 1⟩
  case addHL => exact ⟨_, exec_addHL .., .cpu _ (fun _ => Or.inr (flagByte_low ..)) (.refl s)⟩
  case push => exact ⟨_, exec_push .., (Effect.refl s).push16⟩
  case pop p => exact ⟨_, exec_pop .., (Effect.refl s).afterPop16.setStackPair p⟩
  case jpCond => exact ⟨_, exec_jpCond .., .jumpIf _⟩
  case jrCond => exact ⟨_, exec_jrCond .., .jumpRelativeIf _⟩
  case callCond => exact ⟨_, exec_callCond .., .callIf _⟩
  case retCond => exact ⟨_, exec_retCond .., .returnIf _⟩
  case rst => exact ⟨_, exec_rst .., (Effect.refl s).call⟩
  case illegal => exact ⟨_, exec_illegal .., .refl s⟩
  case rotReg => exact ⟨_, exec_rotReg .., .modifyOperand ..⟩
  case rotHL => exact ⟨_, exec_rotHL .., .modifyOperand ..⟩
  case bitReg => exact ⟨_, exec_bitReg .., .testBit ..⟩
  case bitHL => exact ⟨_, exec_bitHL .., .testBit ..⟩
  case resReg => exact ⟨_, exec_resReg .., .clearBit ..⟩
  case resHL => exact ⟨_, exec_resHL .., .clearBit ..⟩
  case setReg => exact ⟨_, exec_setReg .., .setBitOf ..⟩
  case setHL => exact ⟨_, exec_setHL .., .setBitOf ..⟩
  case ldAtA16SP => exact ⟨_, exec_ldAtA16SP .., .write _ _ (.write _ _ (.refl s))⟩
  case stop => exact ⟨_, exec_stop .., .stopCpu⟩
  case jrE8 => exact ⟨_, exec_jrE8 .., (Effect.refl s).setPc⟩
  case ldAtHLD8 => exact ⟨_, exec_ldAtHLD8 .., .write _ _ (.refl s)⟩
  case jpA16 => exact ⟨_, exec_jpA16 .., (Effect.refl s).setPc⟩
  case prefixCb => exact ⟨_, exec_prefixCb .., .cbOperation⟩
  case callA16 => exact ⟨_, exec_callA16 .., (Effect.refl s).call⟩
  case ldhAtA8A => exact ⟨_, exec_ldhAtA8A .., .storeA⟩
  case addSPE8 => exact ⟨_, exec_addSPE8 .., .cpu _ (fun _ => Or.inr (flagByte_low ..)) (.refl s)⟩
  case ldAtA16A => exact ⟨_, exec_ldAtA16A .., .storeA⟩
  case ldhAAtA8 => exact ⟨_, exec_ldhAAtA8 .., .loadA⟩
  case ldHLSPE8 => exact ⟨_, exec_ldHLSPE8 .., .cpu _ (fun _ => Or.inr (flagByte_low ..)) (.refl s)⟩
  case ldAAtA16 => exact ⟨_, exec_ldAAtA16 .., .loadA⟩
  case nop => exact ⟨_, exec_nop .., .refl s⟩
  case ldAtBCA => exact ⟨_, exec_ldAtBCA .., .storeA⟩
  case rlca => exact ⟨_, exec_rlca .., .accRotate _⟩
  case ldAAtBC => exact ⟨_, exec_ldAAtBC .., .loadA⟩
  case rrca => exact ⟨_, exec_rrca .., .accRotate _⟩
  case ldAtDEA => exact ⟨_, exec_ldAtDEA .., .storeA⟩
  case rla => exact ⟨_, exec_rla .., .accRotate _⟩
  case ldAAtDE => exact ⟨_, exec_ldAAtDE .., .loadA⟩
  case rra => exact ⟨_, exec_rra .., .accRotate _⟩
  case ldAtHLIncA => exact ⟨_, exec_ldAtHLIncA .., Effect.storeA.stepHL⟩
  case daa => exact ⟨_, exec_daa .., .writeA _ (.refl s)⟩
  case ldAAtHLInc => exact ⟨_, exec_ldAAtHLInc .., Effect.loadA.stepHL⟩
  case cpl => exact ⟨_, exec_cpl .., .writeA _ (.refl s)⟩
  case ldAtHLDecA => exact ⟨_, exec_ldAtHLDecA .., Effect.storeA.stepHL⟩
  case incAtHL => exact ⟨_, exec_incAtHL .., .modifyOperand ..⟩
  case decAtHL => exact ⟨_, exec_decAtHL .., .modifyOperand ..⟩
  case scf => exact ⟨_, exec_scf .., .cpu _ (fun _ => Or.inr (flagByte_low ..)) (.refl s)⟩
  case ldAAtHLDec => exact ⟨_, exec_ldAAtHLDec .., Effect.loadA.stepHL⟩
  case ccf => exact ⟨_, exec_ccf .., .cpu _ (fun _ => Or.inr (flagByte_low ..)) (.refl s)⟩
  case halt => exact ⟨_, exec_halt .., .engine _ (fun _ => ⟨rfl, rfl⟩) (.refl s)⟩
  case ret => exact ⟨_, exec_ret .., (Effect.refl s).ret⟩
  case reti => exact ⟨_, exec_reti .., .engine _ (fun _ => ⟨rfl, rfl⟩) (Effect.refl s).ret⟩
  case ldAtCA => exact ⟨_, exec_ldAtCA .., .storeA⟩
  case jpHL => exact ⟨_, exec_jpHL .., (Effect.refl s).setPc⟩
  case ldAAtC => exact ⟨_, exec_ldAAtC .., .loadA⟩
  case di => exact ⟨_, exec_di .., .engine _ (fun _ => ⟨rfl, rfl⟩) (.refl s)⟩
  case ldSPHL => exact ⟨_, exec_ldSPHL .., .cpu _ (fun _ => Or.inl rfl) (.refl s)⟩
  case ei => exact ⟨_, exec_ei .., .engine _ (fun _ => ⟨rfl, rfl⟩) (.refl s)⟩

/-! ## What every instruction keeps -/

theorem Effect.offBus_config (h : Effect s t) :
    t.rom = s.rom ∧ t.romLen = s.romLen ∧ t.eramSize = s.eramSize ∧ t.color = s.color ∧ t.params = s.params ∧
      t.buttons = s.buttons ∧ t.cart.variant = s.cart.variant := by
  induction h with
  | refl => exact ⟨rfl, rfl, rfl, rfl, rfl, rfl, rfl⟩
  | @read t a _ ih =>
    have hb : (t.noteRead a).offBus.2.2 = t.offBus.2.2 := congrArg (·.2.2) offBus_noteRead
    simp only [State.offBus, Prod.mk.injEq] at hb
    exact ⟨hb.1.trans ih.1, hb.2.1.trans ih.2.1, hb.2.2.1.trans ih.2.2.1, hb.2.2.2.1.trans ih.2.2.2.1,
      hb.2.2.2.2.1.trans ih.2.2.2.2.1, hb.2.2.2.2.2.1.trans ih.2.2.2.2.2.1, hb.2.2.2.2.2.2.trans ih.2.2.2.2.2.2⟩
  | @write t a v _ ih =>
    have hb : (t.busWrite a v).offBus.2.2 = t.offBus.2.2 := congrArg (·.2.2) offBus_busWrite
    simp only [State.offBus, Prod.mk.injEq] at hb
    exact ⟨hb.1.trans ih.1, hb.2.1.trans ih.2.1, hb.2.2.1.trans ih.2.2.1, hb.2.2.2.1.trans ih.2.2.2.1,
      hb.2.2.2.2.1.trans ih.2.2.2.2.1, hb.2.2.2.2.2.1.trans ih.2.2.2.2.2.1, hb.2.2.2.2.2.2.trans ih.2.2.2.2.2.2⟩
  | cpu _ _ _ ih => exact ih
  | engine _ _ _ ih => exact ih
  | speed _ _ _ ih => exact ih

theorem Effect.busWf (h : Effect s t) (hs : s.BusWf) : t.BusWf := by
  induction h with
  | refl => exact hs
  | read _ _ ih => exact (ih).noteRead
  | write _ _ _ ih => exact (ih).busWrite
  | cpu _ _ _ ih => exact (ih).mapCpu _
  | engine _ _ _ ih => exact (ih).mapEngine _
  | speed _ hc _ ih => exact { ih with mono := mono_of_color hc }

theorem Effect.flagsMasked (h : Effect s t) (hs : s.cpu.f &&& 0x0F = 0) : t.cpu.f &&& 0x0F = 0 := by
  induction h with
  | refl => exact hs
  | read _ _ ih => rw [State.noteRead_cpu]; exact ih
  | write _ _ _ ih => rw [busWrite_cpu]; exact ih
  | cpu g hg _ ih => exact (hg _).elim (fun e => e.symm ▸ ih) id
  | engine _ _ _ ih => exact ih
  | speed _ _ _ ih => exact ih

theorem Effect.clock (h : Effect s t) : t.engine.clockT = s.engine.clockT ∧ t.engine.clockM = s.engine.clockM := by
  induction h with
  | refl => exact ⟨rfl, rfl⟩
  | read _ _ ih => rw [State.noteRead_engine]; exact ih
  | write _ _ _ ih => rw [busWrite_engine]; exact ih
  | cpu _ _ _ ih => exact ih
  | engine g hg _ ih => exact ⟨(hg _).1.trans ih.1, (hg _).2.trans ih.2⟩
  | speed _ _ _ ih => exact ih

end Sys2Proof.Machine
end

