-- ==== Sys2Proof/Laws/Flags.lean ====
section
/-! SUPPORT. The micro-operations, each said once in numbers: what its result and its flags are. -/

namespace Sys2Proof.Machine

/-! ## The flag byte -/

theorem flagsAre_flagByte (z n h c : Bool) : FlagsAre (flagByte z n h c) z n h c := by
  cases z <;> cases n <;> cases h <;> cases c <;> rfl

theorem getLsbD_flagByte (z n h c : Bool) :
    (flagByte z n h c).getLsbD 7 = z ∧ (flagByte z n h c).getLsbD 6 = n ∧ (flagByte z n h c).getLsbD 5 = h ∧
      (flagByte z n h c).getLsbD 4 = c := by
  cases z <;> cases n <;> cases h <;> cases c <;> decide

/-- The four flags after a micro-operation's flags are written: each one written, or as it was. -/
theorem flags_setZNHC (c : Cpu) (fl : FlagSet) :
    (c.setZNHC fl).flagZ = fl.z.getD c.flagZ ∧ (c.setZNHC fl).flagN = fl.n.getD c.flagN ∧
    (c.setZNHC fl).flagH = fl.h.getD c.flagH ∧ (c.setZNHC fl).flagC = fl.c.getD c.flagC := getLsbD_flagByte ..

theorem ofNat_beq_zero (n : Nat) : (BitVec.ofNat 8 n == 0) = decide (BitVec.ofNat 8 n = 0) := by
  rw [Bool.eq_iff_iff, beq_iff_eq, decide_eq_true_iff]

theorem beq_zero (v : Byte) : (v == 0) = decide (v = 0) := by
  rw [Bool.eq_iff_iff, beq_iff_eq, decide_eq_true_iff]

/-- A byte narrowed from an integer: its remainder modulo 256. -/
theorem toNat_ofInt (d : Int) : ((BitVec.ofInt 8 d).toNat : Int) = d % 256 := by
  rw [BitVec.toNat_ofInt]
  have h : (0 : Int) ≤ d % ((2 ^ 8 : Nat) : Int) := Int.emod_nonneg _ (by decide)
  rw [Int.toNat_of_nonneg h]; rfl

/-! ## Arithmetic -/

variable (a b v : Byte) (cin : Bool)

/-- ADD and ADC: the sum, and the four flags. -/
theorem add8_spec : (add8 a b cin).value.toNat = (a.toNat + b.toNat + cin.toNat) % 256 ∧
    (add8 a b cin).flags = ⟨some (decide ((add8 a b cin).value = 0)), some false,
      some (decide (a.toNat % 16 + b.toNat % 16 + cin.toNat > 15)), some (decide (a.toNat + b.toNat + cin.toNat > 255))⟩ := by
  refine ⟨BitVec.toNat_ofNat .., ?_⟩
  unfold add8 nibble
  simp only [beq_zero]

/-- SUB, SBC and CP: the difference, and the four flags. -/
theorem sub8_spec : ((sub8 a b cin).value.toNat : Int) = ((a.toNat : Int) - b.toNat - cin.toNat) % 256 ∧
    (sub8 a b cin).flags = ⟨some (decide ((sub8 a b cin).value = 0)), some true,
      some (decide (a.toNat % 16 < b.toNat % 16 + cin.toNat)), some (decide (a.toNat < b.toNat + cin.toNat))⟩ := by
  refine ⟨toNat_ofInt _, ?_⟩
  unfold sub8 nibble
  simp only [beq_zero, FlagSet.mk.injEq, Option.some.injEq, decide_eq_decide, true_and]
  omega

/-- INC: C is not written. -/
theorem inc8_spec : (inc8 v).value.toNat = (v.toNat + 1) % 256 ∧
    (inc8 v).flags = ⟨some (decide ((inc8 v).value = 0)), some false, some (decide (v.toNat % 16 = 15)), none⟩ := by
  refine ⟨BitVec.toNat_ofNat .., ?_⟩
  unfold inc8 nibble
  simp only [beq_zero, FlagSet.mk.injEq, Option.some.injEq, decide_eq_decide, true_and, and_true]
  omega

/-- DEC: C is not written. -/
theorem dec8_spec : (dec8 v).value.toNat = (v.toNat + 255) % 256 ∧
    (dec8 v).flags = ⟨some (decide ((dec8 v).value = 0)), some true, some (decide (v.toNat % 16 = 0)), none⟩ := by
  constructor
  · have h := toNat_ofInt ((v.toNat : Int) - 1)
    have hv := v.isLt
    show (BitVec.ofInt 8 ((v.toNat : Int) - 1)).toNat = _
    omega
  · unfold dec8 nibble
    simp only [beq_zero, FlagSet.mk.injEq, Option.some.injEq, decide_eq_decide, true_and, and_true]
    omega

/-- ADD HL,rr. -/
theorem add16_spec (x y : Word) : (add16Value x y).toNat = (x.toNat + y.toNat) % 65536 := BitVec.toNat_ofNat ..

/-- ADD SP,e8 and LD HL,SP+e8: the signed sum. -/
theorem addspValue_spec (sp : Word) : ((addspValue sp v).toNat : Int) = ((sp.toNat : Int) + v.toInt) % 65536 := by
  unfold addspValue
  have hv := v.isLt
  have hs := sp.isLt
  rw [BitVec.truncate_eq_setWidth, BitVec.toNat_setWidth, BitVec.toNat_add, BitVec.toNat_setWidth, BitVec.toNat_signExtend,
    BitVec.toInt_eq_toNat_cond, BitVec.toNat_setWidth, BitVec.msb_eq_decide]
  by_cases hm : 2 ^ (8 - 1) ≤ v.toNat
  · rw [decide_eq_true hm, if_pos rfl]; split <;> omega
  · rw [decide_eq_false hm, if_neg (by decide)]; split <;> omega

/-- ADD SP,e8 and LD HL,SP+e8: H and C come from the unsigned addition of the low bytes, whatever the sign of the offset. -/
theorem addspFlags_spec (sp : Word) : addspFlags sp v =
    ⟨some false, some false, some (decide (sp.toNat % 16 + v.toNat % 16 > 15)), some (decide (sp.toNat % 256 + v.toNat > 255))⟩ := by
  have hv := v.isLt
  have hb : ∀ k, ((sp.zeroExtend 32 : BitVec 32) ^^^ v.signExtend 32 ^^^ (sp.zeroExtend 32 + v.signExtend 32)).getLsbD k =
      (decide (k < 32) && BitVec.carry k (sp.zeroExtend 32 : BitVec 32) (v.signExtend 32) false) := by
    intro k
    rw [BitVec.getLsbD_xor, BitVec.getLsbD_xor]
    by_cases hk : k < 32
    · rw [BitVec.getLsbD_add hk, decide_eq_true hk, Bool.true_and]
      generalize (sp.zeroExtend 32 : BitVec 32).getLsbD k = x
      generalize (v.signExtend 32 : BitVec 32).getLsbD k = y
      generalize BitVec.carry k (sp.zeroExtend 32 : BitVec 32) (v.signExtend 32) false = z
      cases x <;> cases y <;> cases z <;> rfl
    · have h1 := BitVec.getLsbD_of_ge (sp.zeroExtend 32 : BitVec 32) k (by omega)
      have h2 := BitVec.getLsbD_of_ge (v.signExtend 32 : BitVec 32) k (by omega)
      have h3 := BitVec.getLsbD_of_ge ((sp.zeroExtend 32 : BitVec 32) + v.signExtend 32) k (by omega)
      rw [h1, h2, h3]; simp [hk]
  have h8 : (v.signExtend 32).toNat % 256 = v.toNat := by
    rw [BitVec.toNat_signExtend, BitVec.toNat_setWidth]
    split <;> omega
  unfold addspFlags
  simp only [hb, FlagSet.mk.injEq, Option.some.injEq, true_and, BitVec.carry, BitVec.toNat_setWidth]
  have hs := sp.isLt
  constructor
  · simp only [show decide (4 < 32) = true by decide, Bool.true_and, decide_eq_decide, Bool.toNat_false]
    omega
  · simp only [show decide (8 < 32) = true by decide, Bool.true_and, decide_eq_decide, Bool.toNat_false]
    omega

/-- DAA: N is not written, H is cleared. -/
theorem daa_spec (n h c : Bool) :
    (daa a n h c).flags = ⟨some (decide ((daa a n h c).value = 0)), none, some false,
      some (if n then c else c || decide (a.toNat > 0x99))⟩ ∧
    ((daa a n h c).value.toNat : Int) =
      (if n then (a.toNat : Int) - 0x60 * c.toNat - 6 * h.toNat
       else (a.toNat : Int) + 0x60 * (c || decide (a.toNat > 0x99)).toNat + 6 * (h || decide (a.toNat % 16 > 9)).toNat) % 256 := by
  constructor
  · unfold daa; simp only [beq_zero]
  · unfold daa
    dsimp only
    rw [toNat_ofInt]
    congr 1
    unfold nibble
    generalize (c || decide (a.toNat > 0x99)) = u
    generalize (h || decide (a.toNat % 16 > 9)) = l
    cases n <;> cases u <;> cases l <;> cases h <;> cases c <;> simp

/-! ## Rotates, shifts and bit operations -/

/-- Every rotate, shift and swap: its flags, and its result and carry-out by RotSpec. -/
theorem rotOp_spec (o : RotOp) : ∃ co, RotSpec v cin (rotOp o v cin).value co o ∧
    (rotOp o v cin).flags = ⟨some (decide ((rotOp o v cin).value = 0)), some false, some false, some co⟩ := by
  have hall : ∀ v : Byte,
      ((∀ k < 8, (rlc v).value.getLsbD k = v.getLsbD ((k + 7) % 8)) ∧ (∀ k < 8, (rrc v).value.getLsbD k = v.getLsbD ((k + 1) % 8))) ∧
      ((rl v cin).value.toNat = (2 * v.toNat + cin.toNat) % 256 ∧ (rr v cin).value.toNat = v.toNat / 2 + 128 * cin.toNat) ∧
      ((sla v).value.toNat = 2 * v.toNat % 256 ∧ (sra v).value.toInt = v.toInt / 2 ∧ (srl v).value.toNat = v.toNat / 2 ∧
        (swap v).value.toNat = 16 * (v.toNat % 16) + v.toNat / 16) ∧
      (v.getLsbD 7 = decide (128 ≤ v.toNat) ∧ v.getLsbD 0 = decide (v.toNat % 2 = 1)) := by
    cases cin <;> decide +kernel
  obtain ⟨⟨h1, h2⟩, ⟨h3, h4⟩, ⟨h5, h6, h7, h8⟩, h9, h10⟩ := hall v
  cases o
  case rlc => exact ⟨_, ⟨h1, rfl⟩, by simp only [rotOp, rlc, rotOut, beq_zero]⟩
  case rrc => exact ⟨_, ⟨h2, rfl⟩, by simp only [rotOp, rrc, rotOut, beq_zero]⟩
  case rl => exact ⟨_, ⟨h3, h9⟩, by simp only [rotOp, rl, rotOut, beq_zero]⟩
  case rr => exact ⟨_, ⟨h4, h10⟩, by simp only [rotOp, rr, rotOut, beq_zero]⟩
  case sla => exact ⟨_, ⟨h5, h9⟩, by simp only [rotOp, sla, rotOut, beq_zero]⟩
  case sra => exact ⟨_, ⟨h6, h10⟩, by simp only [rotOp, sra, rotOut, beq_zero]⟩
  case swap => exact ⟨_, ⟨h8, rfl⟩, by simp only [rotOp, swap, rotOut, beq_zero]⟩
  case srl => exact ⟨_, ⟨h7, h10⟩, by simp only [rotOp, srl, rotOut, beq_zero]⟩

/-- RES: one bit cleared. -/
theorem resBit_spec (k : Fin 8) : ∀ j < 8, (resBit k v).getLsbD j = (v.getLsbD j && decide (j ≠ k.val)) := by
  intro j hj
  have := k.isLt
  unfold resBit
  rw [BitVec.getLsbD_and, BitVec.getLsbD_not, BitVec.getLsbD_shiftLeft, BitVec.getLsbD_one]
  by_cases h : j = k.val
  · subst h; simp
  · by_cases hl : j < k.val
    · simp [hj, hl, h]
    · have : j - k.val ≠ 0 := by omega
      simp [hj, hl, h, this]

/-- SET: one bit set. -/
theorem setBit_spec (k : Fin 8) : ∀ j < 8, (setBit k v).getLsbD j = (v.getLsbD j || decide (j = k.val)) := by
  intro j hj
  have := k.isLt
  unfold setBit
  rw [BitVec.getLsbD_or, BitVec.getLsbD_shiftLeft, BitVec.getLsbD_one]
  by_cases h : j = k.val
  · subst h; simp [hj]
  · by_cases hl : j < k.val
    · simp [hj, hl, h]
    · have : j - k.val ≠ 0 := by omega
      simp [hj, hl, h, this]

end Sys2Proof.Machine
end

