-- ==== Sys2Proof/Laws/ReadWrite.lean ====
section
/-! SUPPORT. Reading the bus region by region, and what a read gives after a write of a plain cell. -/

namespace Sys2Proof.Machine

variable {s : State} {a b : Word} {v : Byte} {m : Memory}

/-! ## The regions (R72 to R80) -/

theorem busRead_rom (h : a.toNat ≤ 0x7FFF) : s.busRead a = s.romByte (s.cart.romIndex a.toNat) := by
  unfold State.busRead; dsimp only; rw [if_pos h]

theorem busRead_vram (h : 0x8000 ≤ a.toNat) (h' : a.toNat ≤ 0x9FFF) : s.busRead a = s.vram.get ramFill (s.vramIndex a.toNat) := by
  unfold State.busRead; dsimp only; rw [if_neg (by omega), if_pos h']

theorem busRead_eram (h : 0xA000 ≤ a.toNat) (h' : a.toNat ≤ 0xBFFF) : s.busRead a = s.cartReadRam (a.toNat - 0xA000) := by
  unfold State.busRead; dsimp only; rw [if_neg (by omega), if_neg (by omega), if_pos h']

theorem busRead_wram (h : 0xC000 ≤ a.toNat) (h' : a.toNat ≤ 0xDFFF) : s.busRead a = s.wram.get ramFill (s.wramIndex a.toNat) := by
  unfold State.busRead; dsimp only; rw [if_neg (by omega), if_neg (by omega), if_neg (by omega), if_pos h']

theorem busRead_echo_stub (h : 0xE000 ≤ a.toNat) (h' : a.toNat ≤ 0xFDFF) (he : s.params.echoMode = .stub) : s.busRead a = 0xFF := by
  unfold State.busRead; dsimp only
  rw [if_neg (by omega), if_neg (by omega), if_neg (by omega), if_neg (by omega), if_pos h', he]

theorem busRead_echo_mirror (h : 0xE000 ≤ a.toNat) (h' : a.toNat ≤ 0xFDFF) (he : s.params.echoMode = .mirror) :
    s.busRead a = s.wram.get ramFill (s.wramIndex (a.toNat - 0x2000)) := by
  unfold State.busRead; dsimp only
  rw [if_neg (by omega), if_neg (by omega), if_neg (by omega), if_neg (by omega), if_pos h', he]

/-- Two states that agree on the echo mode and on WRAM read the echo region alike. -/
theorem busRead_echo_congr {t : State} (h : 0xE000 ≤ a.toNat) (h' : a.toNat ≤ 0xFDFF) (he : t.params.echoMode = s.params.echoMode)
    (hw : t.wram = s.wram) (hb : t.wramBank = s.wramBank) : t.busRead a = s.busRead a := by
  cases hx : s.params.echoMode
  · rw [busRead_echo_stub h h' hx, busRead_echo_stub h h' (he.trans hx)]
  · rw [busRead_echo_mirror h h' hx, busRead_echo_mirror h h' (he.trans hx), hw]
    unfold State.wramIndex; rw [hb]

/-- Two states that agree on what a port's read reads. -/
theorem ioRead_congr {t : State} (k : Nat) (h1 : t.color = s.color) (h2 : t.ioByte k = s.ioByte k) (h3 : t.buttons = s.buttons)
    (h4 : t.draws = s.draws) (h5 : t.speed = s.speed) (h6 : t.vramBank = s.vramBank) (h7 : t.wramBank = s.wramBank) :
    t.ioRead k = s.ioRead k := by
  unfold State.ioRead; rw [h1, h2, h3, h4, h5, h6, h7]

theorem busRead_oam (h : 0xFE00 ≤ a.toNat) (h' : a.toNat ≤ 0xFE9F) : s.busRead a = s.oam.get ramFill (a.toNat - 0xFE00) := by
  unfold State.busRead; dsimp only
  rw [if_neg (by omega), if_neg (by omega), if_neg (by omega), if_neg (by omega), if_neg (by omega), if_pos h']

theorem busRead_unusable (h : 0xFEA0 ≤ a.toNat) (h' : a.toNat ≤ 0xFEFF) : s.busRead a = 0xFF := by
  unfold State.busRead; dsimp only
  rw [if_neg (by omega), if_neg (by omega), if_neg (by omega), if_neg (by omega), if_neg (by omega), if_neg (by omega), if_pos h']

theorem busRead_io (h : 0xFF00 ≤ a.toNat) : s.busRead a = s.ioRead (a.toNat - 0xFF00) := by
  unfold State.busRead; dsimp only
  rw [if_neg (by omega), if_neg (by omega), if_neg (by omega), if_neg (by omega), if_neg (by omega), if_neg (by omega), if_neg (by omega)]

theorem busWrite_rom (h : a.toNat ≤ 0x7FFF) : s.busWrite a v = { s with cart := s.cart.writeRom a.toNat v } := by
  unfold State.busWrite; dsimp only; rw [if_pos h]

theorem busWrite_vram (h : 0x8000 ≤ a.toNat) (h' : a.toNat ≤ 0x9FFF) : s.busWrite a v = s.vramWrite a.toNat v := by
  unfold State.busWrite; dsimp only; rw [if_neg (by omega), if_pos h']

theorem busWrite_eram (h : 0xA000 ≤ a.toNat) (h' : a.toNat ≤ 0xBFFF) : s.busWrite a v = s.cartWriteRam (a.toNat - 0xA000) v := by
  unfold State.busWrite; dsimp only; rw [if_neg (by omega), if_neg (by omega), if_pos h']

theorem busWrite_wram (h : 0xC000 ≤ a.toNat) (h' : a.toNat ≤ 0xDFFF) :
    s.busWrite a v = { s with wram := s.wram.set ramFill (s.wramIndex a.toNat) v } := by
  unfold State.busWrite; dsimp only; rw [if_neg (by omega), if_neg (by omega), if_neg (by omega), if_pos h']

theorem busWrite_oam (h : 0xFE00 ≤ a.toNat) (h' : a.toNat ≤ 0xFE9F) :
    s.busWrite a v = { s with oam := s.oam.set ramFill (a.toNat - 0xFE00) v } := by
  unfold State.busWrite; dsimp only
  rw [if_neg (by omega), if_neg (by omega), if_neg (by omega), if_neg (by omega), if_neg (by omega), if_pos h']

theorem busWrite_io (h : 0xFF00 ≤ a.toNat) : s.busWrite a v = s.ioWrite (a.toNat - 0xFF00) v := by
  unfold State.busWrite; dsimp only
  rw [if_neg (by omega), if_neg (by omega), if_neg (by omega), if_neg (by omega), if_neg (by omega), if_neg (by omega), if_neg (by omega)]

theorem toNat_port {k : Nat} (h : k < 0x100) : (BitVec.ofNat 16 (0xFF00 + k)).toNat = 0xFF00 + k := by
  rw [BitVec.toNat_ofNat]; omega

/-- A read of a port, by its offset. -/
theorem busRead_port {k : Nat} (h : k < 0x100) (ha : a = BitVec.ofNat 16 (0xFF00 + k)) : s.busRead a = s.ioRead k := by
  subst ha
  rw [busRead_io (by rw [toNat_port h]; omega), toNat_port h, Nat.add_sub_cancel_left]

/-- A write of a port, by its offset. -/
theorem busWrite_port {k : Nat} (h : k < 0x100) (ha : a = BitVec.ofNat 16 (0xFF00 + k)) : s.busWrite a v = s.ioWrite k v := by
  subst ha
  rw [busWrite_io (by rw [toNat_port h]; omega), toNat_port h, Nat.add_sub_cancel_left]

/-- Whether a read is a draw depends on the mode alone. -/
theorem isDraw_congr {t : State} (h : t.color = s.color) : t.isDraw a = s.isDraw a := by
  unfold State.isDraw; rw [h]

/-- The addresses whose read is a draw (R83, R89). -/
theorem isDraw_iff (s : State) (a : Word) : s.isDraw a = true ↔
        (0xFF10 ≤ a.toNat ∧ a.toNat ≤ 0xFF3F) ∨ (s.color = true ∧ 0xFF68 ≤ a.toNat ∧ a.toNat ≤ 0xFF6B) := by
  unfold State.isDraw
  rw [Bool.and_eq_true, decide_eq_true_eq]
  have hl := a.isLt
  generalize hk : a.toNat - 0xFF00 = k
  have h := ioPort_at s.color k
  constructor
  · rintro ⟨h1, h2⟩
    generalize ioPort s.color k = p at *
    cases p <;> first | exact absurd h2 (by decide) | skip
    · have h : 0x10 ≤ k ∧ k ≤ 0x3F := h
      left; omega
    · have h : s.color = true ∧ 0x68 ≤ k ∧ k ≤ 0x6B := h
      right; exact ⟨h.1, by omega, by omega⟩
  · intro hx
    have h1 : 0xFF00 ≤ a.toNat := by rcases hx with hx | hx <;> omega
    refine ⟨h1, ?_⟩
    have hx' : (0x10 ≤ k ∧ k ≤ 0x3F) ∨ (s.color = true ∧ 0x68 ≤ k ∧ k ≤ 0x6B) := by
      rcases hx with hx | ⟨hc, hx⟩
      · left; omega
      · right; exact ⟨hc, by omega, by omega⟩
    generalize ioPort s.color k = p at *
    rcases hx' with hx' | ⟨hc, hx'⟩ <;> cases p <;> simp_all [IoPort.At]

/-! ## Reads after one array changes -/

/-- A read outside VRAM does not see VRAM. -/
theorem busRead_setVram (h : a.toNat < 0x8000 ∨ 0x9FFF < a.toNat) : ({ s with vram := m } : State).busRead a = s.busRead a := by
  by_cases h1 : a.toNat ≤ 0x7FFF
  · rw [busRead_rom h1, busRead_rom h1]; rfl
  by_cases h2 : a.toNat ≤ 0xBFFF
  · rw [busRead_eram (by omega) h2, busRead_eram (by omega) h2]; rfl
  by_cases h3 : a.toNat ≤ 0xDFFF
  · rw [busRead_wram (by omega) h3, busRead_wram (by omega) h3]; rfl
  by_cases h4 : a.toNat ≤ 0xFDFF
  · exact busRead_echo_congr (by omega) h4 rfl rfl rfl
  by_cases h5 : a.toNat ≤ 0xFE9F
  · rw [busRead_oam (by omega) h5, busRead_oam (by omega) h5]
  by_cases h6 : a.toNat ≤ 0xFEFF
  · rw [busRead_unusable (by omega) h6, busRead_unusable (by omega) h6]
  · rw [busRead_io (by omega), busRead_io (by omega)]; exact ioRead_congr _ rfl rfl rfl rfl rfl rfl rfl

/-- A read outside WRAM and its echo does not see WRAM. -/
theorem busRead_setWram (h : a.toNat < 0xC000 ∨ 0xFDFF < a.toNat) : ({ s with wram := m } : State).busRead a = s.busRead a := by
  by_cases h1 : a.toNat ≤ 0x7FFF
  · rw [busRead_rom h1, busRead_rom h1]; rfl
  by_cases h2 : a.toNat ≤ 0x9FFF
  · rw [busRead_vram (by omega) h2, busRead_vram (by omega) h2]; rfl
  by_cases h3 : a.toNat ≤ 0xBFFF
  · rw [busRead_eram (by omega) h3, busRead_eram (by omega) h3]; rfl
  by_cases h5 : a.toNat ≤ 0xFE9F
  · rw [busRead_oam (by omega) h5, busRead_oam (by omega) h5]
  by_cases h6 : a.toNat ≤ 0xFEFF
  · rw [busRead_unusable (by omega) h6, busRead_unusable (by omega) h6]
  · rw [busRead_io (by omega), busRead_io (by omega)]; exact ioRead_congr _ rfl rfl rfl rfl rfl rfl rfl

/-- A read outside OAM does not see OAM. -/
theorem busRead_setOam (h : a.toNat < 0xFE00 ∨ 0xFE9F < a.toNat) : ({ s with oam := m } : State).busRead a = s.busRead a := by
  by_cases h1 : a.toNat ≤ 0x7FFF
  · rw [busRead_rom h1, busRead_rom h1]; rfl
  by_cases h2 : a.toNat ≤ 0x9FFF
  · rw [busRead_vram (by omega) h2, busRead_vram (by omega) h2]; rfl
  by_cases h3 : a.toNat ≤ 0xBFFF
  · rw [busRead_eram (by omega) h3, busRead_eram (by omega) h3]; rfl
  by_cases h4 : a.toNat ≤ 0xDFFF
  · rw [busRead_wram (by omega) h4, busRead_wram (by omega) h4]; rfl
  by_cases h5 : a.toNat ≤ 0xFDFF
  · exact busRead_echo_congr (by omega) h5 rfl rfl rfl
  by_cases h6 : a.toNat ≤ 0xFEFF
  · rw [busRead_unusable (by omega) h6, busRead_unusable (by omega) h6]
  · rw [busRead_io (by omega), busRead_io (by omega)]; exact ioRead_congr _ rfl rfl rfl rfl rfl rfl rfl

/-- A read below the I/O page does not see the I/O file. -/
theorem busRead_setIo_low (k : Nat) (h : a.toNat < 0xFF00) : (s.setIo k v).busRead a = s.busRead a := by
  by_cases h1 : a.toNat ≤ 0x7FFF
  · rw [busRead_rom h1, busRead_rom h1]; rfl
  by_cases h2 : a.toNat ≤ 0x9FFF
  · rw [busRead_vram (by omega) h2, busRead_vram (by omega) h2]; rfl
  by_cases h3 : a.toNat ≤ 0xBFFF
  · rw [busRead_eram (by omega) h3, busRead_eram (by omega) h3]; rfl
  by_cases h4 : a.toNat ≤ 0xDFFF
  · rw [busRead_wram (by omega) h4, busRead_wram (by omega) h4]; rfl
  by_cases h5 : a.toNat ≤ 0xFDFF
  · exact busRead_echo_congr (by omega) h5 rfl rfl rfl
  by_cases h6 : a.toNat ≤ 0xFE9F
  · rw [busRead_oam (by omega) h6, busRead_oam (by omega) h6]; rfl
  · rw [busRead_unusable (by omega) (by omega), busRead_unusable (by omega) (by omega)]

/-- A port's read sees the stored byte of its own offset alone. -/
theorem ioRead_setIo_ne {j k : Nat} (h : j ≠ k) : (s.setIo k v).ioRead j = s.ioRead j :=
  ioRead_congr j rfl (ioByte_setIo_ne h) rfl rfl rfl rfl rfl

theorem ioRead_plain {k : Nat} (h : ioPort s.color k = .plain) : s.ioRead k = s.ioByte k := by
  unfold State.ioRead; rw [h]

theorem ioWrite_plain {k : Nat} (h : ioPort s.color k = .plain) : s.ioWrite k v = s.setIo k v := by
  unfold State.ioWrite; rw [h]

/-! ## Plain cells -/

/-- The plain cells by region. -/
theorem plainCell_cases (h : s.plainCell a = true) :
    (0x8000 ≤ a.toNat ∧ a.toNat ≤ 0x9FFF) ∨ (0xC000 ≤ a.toNat ∧ a.toNat ≤ 0xDFFF) ∨ (0xFE00 ≤ a.toNat ∧ a.toNat ≤ 0xFE9F) ∨
    (0xFF00 ≤ a.toNat ∧ ioPort s.color (a.toNat - 0xFF00) = .plain) := by
  simp only [State.plainCell, Bool.or_eq_true, Bool.and_eq_true, decide_eq_true_eq] at h
  rcases h with ((h | h) | h) | h
  · exact Or.inl h
  · exact Or.inr (Or.inl h)
  · exact Or.inr (Or.inr (Or.inl h))
  · exact Or.inr (Or.inr (Or.inr h))

theorem shows_iff : s.shows a b = true ↔
    b = a ∨ (s.params.echoMode = .mirror ∧ 0xE000 ≤ b.toNat ∧ b.toNat ≤ 0xFDFF ∧ b.toNat = a.toNat + 0x2000) := by
  simp only [State.shows, Bool.or_eq_true, Bool.and_eq_true, decide_eq_true_eq]
  tauto

theorem word_eq_of_toNat {x y : Word} (h : x.toNat = y.toNat) : x = y := BitVec.eq_of_toNat_eq h

/-- Two WRAM addresses of different cells, bank 0 not being selected at 0xD000. -/
theorem wramIndex_inj {j k : Nat} (hs : s.wramBank ≠ 0) (hj : 0xC000 ≤ j) (hj' : j ≤ 0xDFFF) (hk : 0xC000 ≤ k) (hk' : k ≤ 0xDFFF)
    (h : s.wramIndex j = s.wramIndex k) : j = k := by
  have h0 : s.wramBank.toNat ≠ 0 := fun hz => hs (BitVec.eq_of_toNat_eq hz)
  unfold State.wramIndex at h
  split at h <;> split at h <;> omega

/-- A read after a write of a plain cell: what was written where the cell shows, else as before. -/
theorem busRead_busWrite_plain (hm : s.memoryWf = true) (hs : s.wramBank ≠ 0) (ha : s.plainCell a = true) :
    (s.busWrite a v).busRead b = if s.shows a b then v else s.busRead b := by
  simp only [State.memoryWf, Bool.and_eq_true] at hm
  obtain ⟨⟨⟨⟨⟨w1, w2⟩, w3⟩, w4⟩, -⟩, -⟩ := hm
  rcases plainCell_cases ha with ⟨h, h'⟩ | ⟨h, h'⟩ | ⟨h, h'⟩ | ⟨h, hp⟩
  · rw [busWrite_vram h h']
    by_cases hb : 0x8000 ≤ b.toNat ∧ b.toNat ≤ 0x9FFF
    · rw [busRead_vram hb.1 hb.2, busRead_vram hb.1 hb.2]
      show Memory.get ramFill (s.vram.set ramFill (s.vramIndex a.toNat) v) (s.vramIndex b.toNat) = _
      rw [Memory.get_set w1]
      refine if_congr (?_ : _ ↔ _) rfl rfl
      rw [shows_iff]
      unfold State.vramIndex
      constructor
      · intro he; exact Or.inl (word_eq_of_toNat (by omega))
      · rintro (rfl | ⟨-, h1, -⟩)
        · rfl
        · omega
    · rw [if_neg]
      · exact busRead_setVram (by omega)
      · rw [shows_iff]; rintro (rfl | ⟨-, h1, -, h2⟩) <;> omega
  · rw [busWrite_wram h h']
    by_cases hb : 0xC000 ≤ b.toNat ∧ b.toNat ≤ 0xDFFF
    · rw [busRead_wram hb.1 hb.2, busRead_wram hb.1 hb.2]
      show Memory.get ramFill (s.wram.set ramFill (s.wramIndex a.toNat) v) (s.wramIndex b.toNat) = _
      rw [Memory.get_set w2]
      refine if_congr (?_ : _ ↔ _) rfl rfl
      rw [shows_iff]
      constructor
      · intro he; exact Or.inl (word_eq_of_toNat (wramIndex_inj hs hb.1 hb.2 h h' he))
      · rintro (rfl | ⟨-, h1, -⟩)
        · rfl
        · omega
    · by_cases hb' : 0xE000 ≤ b.toNat ∧ b.toNat ≤ 0xFDFF
      · cases he : s.params.echoMode
        · rw [busRead_echo_stub hb'.1 hb'.2 he, busRead_echo_stub hb'.1 hb'.2 (by exact he), if_neg]
          rw [shows_iff, he]; rintro (rfl | ⟨h1, -⟩)
          · omega
          · exact absurd h1 (by decide)
        · rw [busRead_echo_mirror hb'.1 hb'.2 he, busRead_echo_mirror hb'.1 hb'.2 (by exact he)]
          show Memory.get ramFill (s.wram.set ramFill (s.wramIndex a.toNat) v) (s.wramIndex (b.toNat - 0x2000)) = _
          rw [Memory.get_set w2]
          refine if_congr (?_ : _ ↔ _) rfl rfl
          rw [shows_iff]
          constructor
          · intro hx
            have := wramIndex_inj hs (by omega) (by omega) h h' hx
            exact Or.inr ⟨he, hb'.1, hb'.2, by omega⟩
          · rintro (rfl | ⟨-, -, -, h1⟩)
            · omega
            · rw [h1, Nat.add_sub_cancel]
      · rw [if_neg]
        · exact busRead_setWram (by omega)
        · rw [shows_iff]; rintro (rfl | ⟨-, h1, h3, h2⟩) <;> omega
  · rw [busWrite_oam h h']
    by_cases hb : 0xFE00 ≤ b.toNat ∧ b.toNat ≤ 0xFE9F
    · rw [busRead_oam hb.1 hb.2, busRead_oam hb.1 hb.2]
      show Memory.get ramFill (s.oam.set ramFill (a.toNat - 0xFE00) v) (b.toNat - 0xFE00) = _
      rw [Memory.get_set w3]
      refine if_congr (?_ : _ ↔ _) rfl rfl
      rw [shows_iff]
      constructor
      · intro he; exact Or.inl (word_eq_of_toNat (by omega))
      · rintro (rfl | ⟨-, h1, h3, -⟩)
        · rfl
        · omega
    · rw [if_neg]
      · exact busRead_setOam (by omega)
      · rw [shows_iff]; rintro (rfl | ⟨-, h1, h3, h2⟩) <;> omega
  · rw [busWrite_io h, ioWrite_plain hp]
    by_cases hb : 0xFF00 ≤ b.toNat
    · rw [busRead_io hb, busRead_io hb]
      by_cases he : b = a
      · subst he
        have hp' : ioPort (s.setIo (b.toNat - 0xFF00) v).color (b.toNat - 0xFF00) = .plain := hp
        rw [if_pos (shows_iff.mpr (Or.inl rfl)), ioRead_plain hp']
        exact ioByte_setIo_same w4
      · rw [if_neg, ioRead_setIo_ne]
        · intro hx; exact he (word_eq_of_toNat (by omega))
        · rw [shows_iff]; rintro (hx | ⟨-, h1, h3, h2⟩)
          · exact he hx
          · omega
    · rw [if_neg]
      · exact busRead_setIo_low _ (by omega)
      · rw [shows_iff]; rintro (rfl | ⟨-, h1, h3, h2⟩) <;> omega

/-! Where a plain cell lies, region by region. -/

theorem plainIndex_vram (h : a.toNat ≤ 0x9FFF) : s.plainIndex a = (.vram, s.vramIndex a.toNat) := by
  unfold State.plainIndex; dsimp only; rw [if_pos h]

theorem plainIndex_wram (h : 0xC000 ≤ a.toNat) (h' : a.toNat ≤ 0xDFFF) : s.plainIndex a = (.wram, s.wramIndex a.toNat) := by
  unfold State.plainIndex; dsimp only; rw [if_neg (by omega), if_pos h']

theorem plainIndex_oam (h : 0xFE00 ≤ a.toNat) (h' : a.toNat ≤ 0xFE9F) : s.plainIndex a = (.oam, a.toNat - 0xFE00) := by
  unfold State.plainIndex; dsimp only; rw [if_neg (by omega), if_neg (by omega), if_pos h']

theorem plainIndex_io (h : 0xFF00 ≤ a.toNat) : s.plainIndex a = (.io, a.toNat - 0xFF00) := by
  unfold State.plainIndex; dsimp only; rw [if_neg (by omega), if_neg (by omega), if_neg (by omega)]

/-- What a write of a plain cell does to the arrays: the one byte it is takes the value, and every other byte of every bank is as before. -/
theorem ramByte_busWrite_plain (hm : s.memoryWf = true) (ha : s.plainCell a = true) (r : RamArray) (k : Nat) :
    (s.busWrite a v).ramByte r k = if (r, k) = s.plainIndex a then v else s.ramByte r k := by
  simp only [State.memoryWf, Bool.and_eq_true] at hm
  obtain ⟨⟨⟨⟨⟨w1, w2⟩, w3⟩, w4⟩, -⟩, -⟩ := hm
  have keep {x : RamArray} {j : Nat} (h : r ≠ x) : (if (r, k) = (x, j) then v else s.ramByte r k) = s.ramByte r k :=
    if_neg fun he => h (Prod.ext_iff.mp he).1
  have same {x : RamArray} {j : Nat} : (if (x, k) = (x, j) then v else s.ramByte x k) = if k = j then v else s.ramByte x k :=
    if_congr ⟨fun he => (Prod.ext_iff.mp he).2, fun he => by rw [he]⟩ rfl rfl
  rcases plainCell_cases ha with ⟨h, h'⟩ | ⟨h, h'⟩ | ⟨h, h'⟩ | ⟨h, hp⟩
  · rw [busWrite_vram h h', plainIndex_vram h']
    cases r <;> first | rw [same]; exact Memory.get_set w1 | rw [keep (by decide)]; rfl
  · rw [busWrite_wram h h', plainIndex_wram h h']
    cases r <;> first | rw [same]; exact Memory.get_set w2 | rw [keep (by decide)]; rfl
  · rw [busWrite_oam h h', plainIndex_oam h h']
    cases r <;> first | rw [same]; exact Memory.get_set w3 | rw [keep (by decide)]; rfl
  · rw [busWrite_io h, ioWrite_plain hp, plainIndex_io h]
    cases r <;> first | rw [same]; exact Memory.get_set w4 | rw [keep (by decide)]; rfl

/-- A write of a plain cell changes the arrays a plain cell can lie in, and nothing else of the machine. -/
theorem busWrite_plain_eq (ha : s.plainCell a = true) : s.busWrite a v = { s with
    vram := (s.busWrite a v).vram, wram := (s.busWrite a v).wram, oam := (s.busWrite a v).oam, io := (s.busWrite a v).io } := by
  rcases plainCell_cases ha with ⟨h, h'⟩ | ⟨h, h'⟩ | ⟨h, h'⟩ | ⟨h, hp⟩
  · rw [busWrite_vram h h']; rfl
  · rw [busWrite_wram h h']
  · rw [busWrite_oam h h']
  · rw [busWrite_io h, ioWrite_plain hp]; rfl

/-- A write of a plain cell keeps the canonical form of every array. -/
theorem memoryWf_busWrite_plain (hm : s.memoryWf = true) (ha : s.plainCell a = true) : (s.busWrite a v).memoryWf = true := by
  unfold State.memoryWf at hm ⊢
  simp only [Bool.and_eq_true] at hm ⊢
  obtain ⟨⟨⟨⟨⟨w1, w2⟩, w3⟩, w4⟩, w5⟩, w6⟩ := hm
  have hl := a.isLt
  rcases plainCell_cases ha with ⟨h, h'⟩ | ⟨h, h'⟩ | ⟨h, h'⟩ | ⟨h, hp⟩
  · rw [busWrite_vram h h']; exact ⟨⟨⟨⟨⟨Memory.wf_set w1 (vramIndex_lt h h'), w2⟩, w3⟩, w4⟩, w5⟩, w6⟩
  · rw [busWrite_wram h h']; exact ⟨⟨⟨⟨⟨w1, Memory.wf_set w2 (wramIndex_lt h h')⟩, w3⟩, w4⟩, w5⟩, w6⟩
  · rw [busWrite_oam h h']; exact ⟨⟨⟨⟨⟨w1, w2⟩, Memory.wf_set w3 (by omega)⟩, w4⟩, w5⟩, w6⟩
  · rw [busWrite_io h, ioWrite_plain hp]; exact ⟨⟨⟨⟨⟨w1, w2⟩, w3⟩, Memory.wf_set w4 (by omega)⟩, w5⟩, w6⟩

/-- The read of a plain cell is no draw. -/
theorem isDraw_of_plainCell (ha : s.plainCell a = true) : s.isDraw a = false := by
  unfold State.isDraw
  rcases plainCell_cases ha with ⟨h, h'⟩ | ⟨h, h'⟩ | ⟨h, h'⟩ | ⟨h, hp⟩
  · rw [decide_eq_false (by omega), Bool.false_and]
  · rw [decide_eq_false (by omega), Bool.false_and]
  · rw [decide_eq_false (by omega), Bool.false_and]
  · rw [hp, Bool.and_eq_false_iff]; exact Or.inr rfl

/-! ## The two copies -/

/-- The copy of the OAM DMA: it changes OAM and the draw counter alone, and each copied byte is the one the bus gives before the copy,
where its source is no draw and lies outside OAM or at the same place in it. -/
theorem oamCopy_spec (src : Word) (n i : Nat) (hm : Memory.wf ramFill 0xA0 s.oam = true) (hn : i + n ≤ 0xA0) :
    ∃ (oam : Memory) (d : Nat), State.oamCopy src n i s = { s with oam := oam, draws := d } ∧
      (∀ k < i, oam.get ramFill k = s.oam.get ramFill k) ∧
      ∀ k, i ≤ k → k < i + n → s.isDraw (src + BitVec.ofNat 16 k) = false →
        ((src + BitVec.ofNat 16 k).toNat < 0xFE00 ∨ 0xFE9F < (src + BitVec.ofNat 16 k).toNat ∨
          (src + BitVec.ofNat 16 k).toNat = 0xFE00 + k) →
        oam.get ramFill k = s.busRead (src + BitVec.ofNat 16 k) := by
  induction n generalizing s i with
  | zero => exact ⟨s.oam, s.draws, rfl, fun _ _ => rfl, fun k h1 h2 => by omega⟩
  | succ n ih =>
    rw [State.oamCopy]
    dsimp only
    have hd : ({ s.noteRead (src + BitVec.ofNat 16 i) with
          oam := s.oam.set ramFill i (s.busRead (src + BitVec.ofNat 16 i)) } : State) =
        { s.setDraws (s.noteRead (src + BitVec.ofNat 16 i)).draws with
          oam := s.oam.set ramFill i (s.busRead (src + BitVec.ofNat 16 i)) } := by
      rw [← noteRead_eq_setDraws]
    rw [hd]
    generalize (s.noteRead (src + BitVec.ofNat 16 i)).draws = d0
    obtain ⟨oam, d, h1, h2, h3⟩ := ih (s := { s.setDraws d0 with
      oam := s.oam.set ramFill i (s.busRead (src + BitVec.ofNat 16 i)) }) (i + 1) (Memory.wf_set hm (by omega)) (by omega)
    refine ⟨oam, d, by rw [h1]; rfl, fun k hk => ?_, fun k hk hk' hdk hs => ?_⟩
    · rw [h2 k (by omega)]
      exact Memory.get_set_ne (by omega)
    · by_cases hki : k = i
      · subst hki
        rw [h2 k (by omega)]
        exact Memory.get_set_same hm
      · have hc : ∀ t : State, t.color = s.color → t.isDraw (src + BitVec.ofNat 16 k) = false := fun t h => (isDraw_congr h).trans hdk
        rw [h3 k (by omega) (by omega) (hc _ rfl) hs]
        by_cases ho : (src + BitVec.ofNat 16 k).toNat < 0xFE00 ∨ 0xFE9F < (src + BitVec.ofNat 16 k).toNat
        · rw [busRead_setOam ho, busRead_setDraws hdk]
        · rw [busRead_oam (a := src + BitVec.ofNat 16 k) (by omega) (by omega),
            busRead_oam (a := src + BitVec.ofNat 16 k) (by omega) (by omega)]
          show Memory.get ramFill (s.oam.set ramFill i (s.busRead (src + BitVec.ofNat 16 i))) _ = _
          rw [Memory.get_set_ne (by omega)]

/-- The copy of the HDMA: it changes VRAM and the draw counter alone; with no source byte in VRAM and none a draw, every copied byte is
the one the bus gives before the copy, and VRAM elsewhere is unchanged. -/
theorem hdmaCopy_spec (src : Word) (doff n i : Nat) (hm : Memory.wf ramFill 0x4000 s.vram = true) (hn : i + n ≤ 0x2000) :
    ∃ (vram : Memory) (d : Nat), State.hdmaCopy src doff n i s = { s with vram := vram, draws := d } ∧
      ((∀ k, i ≤ k → k < i + n → s.isDraw (src + BitVec.ofNat 16 k) = false ∧
          ((src + BitVec.ofNat 16 k).toNat < 0x8000 ∨ 0x9FFF < (src + BitVec.ofNat 16 k).toNat)) →
        d = s.draws ∧
        (∀ k, i ≤ k → k < i + n →
          vram.get ramFill (s.vramBank.toNat * 0x2000 + (doff + k) % 0x2000) = s.busRead (src + BitVec.ofNat 16 k)) ∧
        ∀ o, (∀ k, i ≤ k → k < i + n → o ≠ s.vramBank.toNat * 0x2000 + (doff + k) % 0x2000) →
          vram.get ramFill o = s.vram.get ramFill o) := by
  induction n generalizing s i with
  | zero => exact ⟨s.vram, s.draws, rfl, fun _ => ⟨rfl, fun k h1 h2 => by omega, fun _ _ => rfl⟩⟩
  | succ n ih =>
    rw [State.hdmaCopy]
    have hidx : s.vramIndex (0x8000 + (doff + i) % 0x2000) = s.vramBank.toNat * 0x2000 + (doff + i) % 0x2000 := by
      unfold State.vramIndex; omega
    have hd : (s.noteRead (src + BitVec.ofNat 16 i)).vramWrite (0x8000 + (doff + i) % 0x2000) (s.busRead (src + BitVec.ofNat 16 i)) =
        { s.setDraws (s.noteRead (src + BitVec.ofNat 16 i)).draws with
          vram := s.vram.set ramFill (s.vramBank.toNat * 0x2000 + (doff + i) % 0x2000) (s.busRead (src + BitVec.ofNat 16 i)) } := by
      rw [← hidx, noteRead_eq_setDraws (s := s)]; rfl
    have hlt : s.vramBank.toNat * 0x2000 + (doff + i) % 0x2000 < 0x4000 := by
      have := s.vramBank.isLt; omega
    rw [hd]
    obtain ⟨vram, d, h1, h2⟩ := ih (s := { s.setDraws (s.noteRead (src + BitVec.ofNat 16 i)).draws with
      vram := s.vram.set ramFill (s.vramBank.toNat * 0x2000 + (doff + i) % 0x2000) (s.busRead (src + BitVec.ofNat 16 i)) }) (i + 1)
      (Memory.wf_set hm hlt) (by omega)
    refine ⟨vram, d, by rw [h1]; rfl, fun hk => ?_⟩
    have hki := hk i (by omega) (by omega)
    have hrest : ∀ k, i + 1 ≤ k → k < i + 1 + n →
        s.isDraw (src + BitVec.ofNat 16 k) = false ∧
        ((src + BitVec.ofNat 16 k).toNat < 0x8000 ∨ 0x9FFF < (src + BitVec.ofNat 16 k).toNat) :=
      fun k h h' => hk k (by omega) (by omega)
    have hc : ∀ (t : State) (x : Word), t.color = s.color → s.isDraw x = false → t.isDraw x = false :=
      fun t x h hx => (isDraw_congr h).trans hx
    obtain ⟨e1, e2, e3⟩ := h2 fun k h h' => ⟨hc _ _ rfl (hrest k h h').1, (hrest k h h').2⟩
    refine ⟨?_, fun k hl hu => ?_, fun o ho => ?_⟩
    · rw [e1]; exact (congrArg State.draws (noteRead_of_not_draw hki.1) :)
    · by_cases hke : k = i
      · subst hke
        have := e3 (s.vramBank.toNat * 0x2000 + (doff + k) % 0x2000) fun j hj hj' => by
          show _ ≠ s.vramBank.toNat * 0x2000 + (doff + j) % 0x2000
          omega
        rw [this]
        exact Memory.get_set_same hm
      · have := e2 k (by omega) (by omega)
        refine Eq.trans this ?_
        rw [busRead_setVram (hk k hl hu).2, busRead_setDraws (hk k hl hu).1]
    · rw [e3 o fun k h h' => ho k (by omega) (by omega)]
      exact Memory.get_set_ne (ho i (by omega) (by omega))

end Sys2Proof.Machine
end

