-- ==== Sys2Proof/Laws/Step.lean ====
section
/-! SUPPORT. What a step can do, said once: every step completes, and its execute phase is a chain of the actions of `Effect`; what the
timer phase, the interrupt phase and the accounting can do; and what the host's actions and a launch keep. -/

namespace Sys2Proof.Machine

variable {s t : State} {a : Word} {v : Byte} {k n i : Nat}

/-! ## The timer phase -/

theorem State.BusWf.request (h : s.BusWf) (x : IntSource) : (s.request x).BusWf :=
  h.setIo (by decide) (by decide) (by decide) (by decide)

theorem State.BusWf.divTick (h : s.BusWf) (c : Nat) : (s.divTick c).BusWf :=
  { h.setIo (k := 0x04) (v := s.ioByte 0x04 + BitVec.ofNat 8 ((s.timer.divAcc + c) / s.params.divPeriod)) (by decide) (by decide)
      (by decide) (by decide) with
    divAcc := Nat.mod_lt _ h.period }

theorem State.BusWf.timaIncrement (h : s.BusWf) : s.timaIncrement.BusWf := by
  unfold State.timaIncrement
  split
  · exact (h.setIo (by decide) (by decide) (by decide) (by decide)).request _
  · exact h.setIo (by decide) (by decide) (by decide) (by decide)

theorem State.BusWf.timaIncrements (h : s.BusWf) : (State.timaIncrements n s).BusWf := by
  induction n generalizing s with
  | zero => exact h
  | succ n ih => exact ih h.timaIncrement

theorem State.BusWf.timaTick (h : s.BusWf) (c : Nat) : (s.timaTick c).BusWf := by
  unfold State.timaTick
  split
  · have h' : State.BusWf { s with timer := { s.timer with timerAcc := (s.timer.timerAcc + c) % s.timer.threshold.cycles } } :=
      { h with timerAcc := Nat.mod_lt _ (Threshold.cycles_pos _) }
    exact h'.timaIncrements
  · exact h

theorem State.BusWf.timerTick (h : s.BusWf) (c : Nat) : (s.timerTick c).BusWf := (h.divTick c).timaTick c

/-- What the timer phase leaves alone: everything but the timer and the I/O file. -/
def State.offTimer (s : State) : State := { s with timer := Timer.launch, io := [] }

theorem offTimer_divTick (c : Nat) : (s.divTick c).offTimer = s.offTimer := rfl

theorem offTimer_timaIncrement : s.timaIncrement.offTimer = s.offTimer := by
  unfold State.timaIncrement; split <;> rfl

theorem offTimer_timaIncrements : (State.timaIncrements n s).offTimer = s.offTimer := by
  induction n generalizing s with
  | zero => rfl
  | succ n ih => rw [State.timaIncrements, ih, offTimer_timaIncrement]

theorem offTimer_timaTick (c : Nat) : (s.timaTick c).offTimer = s.offTimer := by
  unfold State.timaTick
  split
  · exact offTimer_timaIncrements.trans rfl
  · rfl

/-- The timer phase changes the timer and the I/O file alone. -/
theorem offTimer_timerTick (c : Nat) : (s.timerTick c).offTimer = s.offTimer :=
  (offTimer_timaTick c).trans (offTimer_divTick c)

@[simp] theorem timerTick_cpu (c : Nat) : (s.timerTick c).cpu = s.cpu := (congrArg State.cpu (offTimer_timerTick (s := s) c) :)
@[simp] theorem timerTick_engine (c : Nat) : (s.timerTick c).engine = s.engine := (congrArg State.engine (offTimer_timerTick (s := s) c) :)
@[simp] theorem timerTick_speed (c : Nat) : (s.timerTick c).speed = s.speed := (congrArg State.speed (offTimer_timerTick (s := s) c) :)
@[simp] theorem timerTick_hdma (c : Nat) : (s.timerTick c).hdma = s.hdma := (congrArg State.hdma (offTimer_timerTick (s := s) c) :)
@[simp] theorem timerTick_cart (c : Nat) : (s.timerTick c).cart = s.cart := (congrArg State.cart (offTimer_timerTick (s := s) c) :)
@[simp] theorem timerTick_vramBank (c : Nat) : (s.timerTick c).vramBank = s.vramBank :=
  (congrArg State.vramBank (offTimer_timerTick (s := s) c) :)
@[simp] theorem timerTick_wramBank (c : Nat) : (s.timerTick c).wramBank = s.wramBank :=
  (congrArg State.wramBank (offTimer_timerTick (s := s) c) :)
@[simp] theorem timerTick_vram (c : Nat) : (s.timerTick c).vram = s.vram := (congrArg State.vram (offTimer_timerTick (s := s) c) :)
@[simp] theorem timerTick_wram (c : Nat) : (s.timerTick c).wram = s.wram := (congrArg State.wram (offTimer_timerTick (s := s) c) :)
@[simp] theorem timerTick_oam (c : Nat) : (s.timerTick c).oam = s.oam := (congrArg State.oam (offTimer_timerTick (s := s) c) :)
@[simp] theorem timerTick_rom (c : Nat) : (s.timerTick c).rom = s.rom := (congrArg State.rom (offTimer_timerTick (s := s) c) :)
@[simp] theorem timerTick_romLen (c : Nat) : (s.timerTick c).romLen = s.romLen := (congrArg State.romLen (offTimer_timerTick (s := s) c) :)
@[simp] theorem timerTick_eram (c : Nat) : (s.timerTick c).eram = s.eram := (congrArg State.eram (offTimer_timerTick (s := s) c) :)
@[simp] theorem timerTick_eramSize (c : Nat) : (s.timerTick c).eramSize = s.eramSize :=
  (congrArg State.eramSize (offTimer_timerTick (s := s) c) :)
@[simp] theorem timerTick_color (c : Nat) : (s.timerTick c).color = s.color := (congrArg State.color (offTimer_timerTick (s := s) c) :)
@[simp] theorem timerTick_params (c : Nat) : (s.timerTick c).params = s.params := (congrArg State.params (offTimer_timerTick (s := s) c) :)
@[simp] theorem timerTick_buttons (c : Nat) : (s.timerTick c).buttons = s.buttons :=
  (congrArg State.buttons (offTimer_timerTick (s := s) c) :)
@[simp] theorem timerTick_paletteOut (c : Nat) : (s.timerTick c).paletteOut = s.paletteOut :=
  (congrArg State.paletteOut (offTimer_timerTick (s := s) c) :)
@[simp] theorem timerTick_draws (c : Nat) : (s.timerTick c).draws = s.draws := (congrArg State.draws (offTimer_timerTick (s := s) c) :)

/-- The timer phase writes IF, DIV and TIMA alone of the I/O file. -/
theorem ioByte_timaIncrements (h0 : k ≠ 0x05) (h1 : k ≠ 0x0F) : (State.timaIncrements n s).ioByte k = s.ioByte k := by
  induction n generalizing s with
  | zero => rfl
  | succ n ih =>
    rw [State.timaIncrements, ih]
    unfold State.timaIncrement
    split
    · unfold State.request; rw [ioByte_setIo_ne h1, ioByte_setIo_ne h0]
    · rw [ioByte_setIo_ne h0]

theorem ioByte_timerTick (c : Nat) (h0 : k ≠ 0x04) (h1 : k ≠ 0x05) (h2 : k ≠ 0x0F) : (s.timerTick c).ioByte k = s.ioByte k := by
  unfold State.timerTick State.timaTick
  have hd : (s.divTick c).ioByte k = s.ioByte k := ioByte_setIo_ne h0
  split
  · rw [ioByte_timaIncrements h1 h2]; exact hd
  · exact hd

/-! ## The interrupt phase -/

theorem Effect.busWf_push16 (h : s.BusWf) (w : Word) : (s.push16 w).BusWf := (Effect.refl s).push16.busWf h

theorem State.BusWf.takeInterrupt (h : s.BusWf) (x : IntSource) : (s.takeInterrupt x).BusWf := by
  have h1 : (((s.mapEngine fun g => { g with ime := false, halted := false }).setIo 0x0F (s.ifByte &&& ~~~(1#8 <<< x.bit)))).BusWf :=
    (h.mapEngine _).setIo (by decide) (by decide) (by decide) (by decide)
  exact ((Effect.refl _).push16.setPc).busWf h1

/-- What the interrupt phase can do: leave the state but for the engine's run bits, or take the pending source. -/
theorem interruptPhase_cases (s : State) :
    (∃ g : Engine → Engine, (∀ e, (g e).clockT = e.clockT ∧ (g e).clockM = e.clockM ∧ (g e).cycles = e.cycles) ∧
      s.interruptPhase = (s.mapEngine g, 0)) ∨
    (∃ x, s.pendingSource = some x ∧ s.engine.stopped = false ∧ s.engine.imeEnabling = false ∧ s.engine.ime = true ∧
      s.interruptPhase = (s.takeInterrupt x, s.params.intDispatchCycles)) := by
  have hid : ∃ g : Engine → Engine, (∀ e, (g e).clockT = e.clockT ∧ (g e).clockM = e.clockM ∧ (g e).cycles = e.cycles) ∧
      (s, 0) = (s.mapEngine g, 0) := ⟨id, fun _ => ⟨rfl, rfl, rfl⟩, rfl⟩
  unfold State.interruptPhase
  split
  · split
    · exact Or.inl ⟨fun g => { g with stopped := false }, fun _ => ⟨rfl, rfl, rfl⟩, rfl⟩
    · exact Or.inl hid
  · next hs =>
    split
    · exact Or.inl ⟨fun g => { g with ime := true, imeEnabling := false }, fun _ => ⟨rfl, rfl, rfl⟩, rfl⟩
    · next he =>
      split
      · next hp =>
        split
        · exact Or.inl hid
        · next x hx =>
          split
          · exact Or.inl ⟨fun g => { g with halted := false }, fun _ => ⟨rfl, rfl, rfl⟩, rfl⟩
          · next hw =>
            refine Or.inr ⟨x, hx, by simpa using hs, by simpa using he, ?_, rfl⟩
            cases hi : s.engine.ime
            · simp_all
            · rfl
      · exact Or.inl hid

theorem State.BusWf.interruptPhase (h : s.BusWf) : s.interruptPhase.1.BusWf := by
  rcases interruptPhase_cases s with ⟨g, -, hg⟩ | ⟨x, -, -, -, -, hx⟩
  · rw [hg]; exact h.mapEngine g
  · rw [hx]; exact h.takeInterrupt x

/-- What the phase reads of IF and IE: two states that agree on the source to service, on IF bit 4 and on the CPU, the engine and the cost
get the same CPU, engine and charge. IF's other bits matter only in that a pending source is a set bit. -/
theorem interruptPhase_congr (hc : s.cpu = t.cpu) (he : s.engine = t.engine) (hp : s.params = t.params)
    (hs : s.pendingSource = t.pendingSource) (h4 : s.ifByte.getLsbD 4 = t.ifByte.getLsbD 4) :
    s.interruptPhase.1.cpu = t.interruptPhase.1.cpu ∧ s.interruptPhase.1.engine = t.interruptPhase.1.engine ∧
    s.interruptPhase.2 = t.interruptPhase.2 := by
  have hz : ∀ u : State, u.pendingSource ≠ none → u.ifByte ≠ 0 := fun u h h0 => by
    apply h; unfold State.pendingSource; rw [h0]; simp
  have ht : ∀ x, (s.takeInterrupt x).cpu = (t.takeInterrupt x).cpu ∧ (s.takeInterrupt x).engine = (t.takeInterrupt x).engine := by
    intro x
    unfold State.takeInterrupt State.push16 State.pushByte State.setPc
    simp [hc, he]
  unfold State.interruptPhase
  rw [h4, he, hs]
  split
  · split <;> simp [State.mapEngine, hc, he]
  · split
    · simp [State.mapEngine, hc, he]
    · cases hx : t.pendingSource with
      | none => dsimp only; split <;> split <;> simp [hc, he]
      | some x =>
        rw [bne_iff_ne.mpr (hz s (by simp [hs, hx])), bne_iff_ne.mpr (hz t (by simp [hx]))]
        split
        · dsimp only
          split
          · simp [State.mapEngine, hc, he]
          · exact ⟨(ht x).1, (ht x).2, congrArg Params.intDispatchCycles hp⟩
        · simp [hc, he]

/-- What the interrupt phase leaves alone: F, the clock and the configuration. -/
theorem interruptPhase_keeps (s : State) :
    s.interruptPhase.1.cpu.f = s.cpu.f ∧ s.interruptPhase.1.engine.clockT = s.engine.clockT ∧
    s.interruptPhase.1.offBus.2.2 = s.offBus.2.2 := by
  rcases interruptPhase_cases s with ⟨g, hc, hg⟩ | ⟨x, -, -, -, -, hx⟩
  · rw [hg]; exact ⟨rfl, (hc _).1, rfl⟩
  · rw [hx]
    unfold State.takeInterrupt State.push16 State.pushByte State.setPc
    simp only [State.mapCpu_cpu, busWrite_cpu, State.setIo_cpu, State.mapEngine_cpu, State.mapCpu_engine, busWrite_engine,
      State.setIo_engine, State.mapEngine_engine, true_and]
    have hm : ∀ (u : State) (g : Cpu → Cpu), (u.mapCpu g).offBus.2.2 = u.offBus.2.2 := fun _ _ => rfl
    rw [hm, congrArg (·.2.2) offBus_busWrite, hm, congrArg (·.2.2) offBus_busWrite, hm]
    rfl

/-! ## The accounting -/

/-- The phases after the execute phase, in one chain: the timer phase, the interrupt phase, the timer phase of the dispatch's cycles (none
for 0 cycles), the accounting. -/
theorem finishStep_eq (s : State) : s.finishStep =
    (if (s.timerTick s.engine.cycles).interruptPhase.2 > 0 then
        (s.timerTick s.engine.cycles).interruptPhase.1.timerTick (s.timerTick s.engine.cycles).interruptPhase.2
      else (s.timerTick s.engine.cycles).interruptPhase.1).advanceClock
      (s.engine.cycles + (s.timerTick s.engine.cycles).interruptPhase.2) := rfl

theorem State.BusWf.finishStep (h : s.BusWf) : s.finishStep.BusWf := by
  have hp := (h.timerTick s.engine.cycles).interruptPhase
  rw [finishStep_eq]
  split
  · exact (hp.timerTick _).mapEngine _
  · exact hp.mapEngine _

/-- What a step's phases after the execute phase leave alone, and what they do to the clock. -/
theorem finishStep_keeps (s : State) :
    s.finishStep.cpu.f = s.cpu.f ∧ s.finishStep.engine.clockT = s.engine.clockT + s.finishStep.engine.cycles ∧
    s.finishStep.engine.clockM = s.finishStep.engine.clockT / 4 ∧
    s.finishStep.engine.cycles = s.engine.cycles + (s.timerTick s.engine.cycles).interruptPhase.2 ∧
    s.finishStep.offBus.2.2 = s.offBus.2.2 := by
  have hk := interruptPhase_keeps (s.timerTick s.engine.cycles)
  rw [timerTick_cpu, timerTick_engine] at hk
  have ho : (s.timerTick s.engine.cycles).offBus.2.2 = s.offBus.2.2 :=
    (congrArg (fun u : State => u.offBus.2.2) (offTimer_timerTick (s := s) s.engine.cycles) :)
  rw [finishStep_eq]
  generalize (s.timerTick s.engine.cycles).interruptPhase = p at hk
  obtain ⟨u, m⟩ := p
  have ht : ∀ (x : State) (j : Nat), (x.advanceClock j).offBus.2.2 = x.offBus.2.2 := fun _ _ => rfl
  dsimp only at hk ⊢
  split
  · refine ⟨?_, ?_, ?_, rfl, ?_⟩
    · exact (congrArg (fun u : State => u.cpu.f) (offTimer_timerTick (s := u) m) :).trans hk.1
    · show (u.timerTick m).engine.clockT + _ = _
      rw [timerTick_engine, hk.2.1]; rfl
    · rfl
    · exact (ht _ _).trans ((congrArg (fun u : State => u.offBus.2.2) (offTimer_timerTick (s := u) m) :).trans (hk.2.2.trans ho))
  · refine ⟨hk.1, ?_, rfl, rfl, ?_⟩
    · show u.engine.clockT + _ = _
      rw [hk.2.1]; rfl
    · exact (ht _ _).trans (hk.2.2.trans ho)

/-! ## The step -/

theorem Effect.setCycles (n : Nat) (h : Effect s t) : Effect s (t.setCycles n) := .engine _ (fun _ => ⟨rfl, rfl⟩) h

theorem Effect.afterFetch (h : Effect s t) : Effect s t.afterFetch := .cpu _ (fun _ => Or.inl rfl) (.read _ h)

theorem Effect.fetchInstr : Effect s s.fetchInstr.2 := by
  unfold State.fetchInstr
  dsimp only
  split
  · exact (Effect.refl s).afterFetch
  · exact (Effect.refl s).afterFetch.afterFetch
  · exact (Effect.refl s).afterFetch.afterFetch.afterFetch
  · exact (Effect.refl s).afterFetch.afterFetch

theorem Effect.trans {u : State} (h : Effect s t) (h' : Effect t u) : Effect s u := by
  induction h' with
  | refl => exact h
  | read a _ ih => exact .read a ih
  | write a v _ ih => exact .write a v ih
  | cpu g hg _ ih => exact .cpu g hg ih
  | engine g hg _ ih => exact .engine g hg ih
  | speed x hc _ ih => exact .speed x hc ih

/-- What a step can do: a chain of the actions of `Effect`, then the phases after the execute phase. -/
theorem step_effect (s : State) : ∃ t, step s = .next t.finishStep ∧ Effect s t := by
  unfold step
  split
  · obtain ⟨t, ht, he⟩ := exec_effect s.fetchInstr.1 (s.fetchInstr.2.readyFor s.fetchInstr.1)
    rw [ht]
    exact ⟨t, rfl, Effect.trans (Effect.setCycles _ Effect.fetchInstr) he⟩
  · exact ⟨_, rfl, .setCycles _ (.refl s)⟩

/-- Every step that completes ends in the phases after the execute phase. -/
theorem step_cases (h : step s = .next t) : ∃ u, t = u.finishStep ∧ Effect s u := by
  obtain ⟨u, hu, he⟩ := step_effect s
  rw [hu] at h
  exact ⟨u, by injection h with h; exact h.symm, he⟩

/-! ## The host's actions -/

theorem State.BusWf.loadSaveData (h : s.BusWf) (blob : List Byte) : (s.loadSaveData blob).BusWf :=
  { h with eram := Memory.wf_setBytes blob h.eram }

theorem State.BusWf.hblankTick (h : s.BusWf) : s.hblankTick.BusWf := by
  unfold State.hblankTick
  split
  · next ha =>
    have hl := h.hdmaLeft ha
    have hcopy := h.hdmaCopy s.hdma.src (s.hdma.dst.toNat - 0x8000) (n := 16) (i := 0)
    have hoff := offBus_hdmaCopy (s := s) (n := 16) (i := 0) s.hdma.src (s.hdma.dst.toNat - 0x8000)
    have hd1 := h.hdmaLow
    have hd2 := h.hdmaHigh
    have hd3 := h.hdmaDst
    have hlen := h.hdmaLen
    have hmod : s.hdma.dst.toNat % 16 = 0 := by
      have := congrArg BitVec.toNat hd3
      rw [BitVec.toNat_and] at this
      have h16 : s.hdma.dst.toNat &&& (2 ^ 4 - 1) = s.hdma.dst.toNat % 2 ^ 4 := Nat.and_two_pow_sub_one_eq_mod ..
      exact (h16.symm.trans this)
    have halign : ∀ w : Word, w.toNat % 16 = 0 → w &&& 0x000F = 0 := fun w hw => by
      apply BitVec.eq_of_toNat_eq
      rw [BitVec.toNat_and]
      exact (Nat.and_two_pow_sub_one_eq_mod w.toNat 4).trans hw
    have hsmod : s.hdma.src.toNat % 16 = 0 := by
      have := congrArg BitVec.toNat h.hdmaSrc
      rw [BitVec.toNat_and] at this
      exact (Nat.and_two_pow_sub_one_eq_mod s.hdma.src.toNat 4).symm.trans this
    refine hcopy.setHdma _ ?_ ?_ ?_ ?_ ?_ ?_ ?_
    · exact (congrArg (fun t => t.2.2.2.2.2.1) hoff).trans hl.1
    · dsimp only; omega
    · apply halign; dsimp only; rw [BitVec.toNat_add, show (16 : Word).toNat = 16 from rfl]; omega
    · apply halign; dsimp only; rw [BitVec.toNat_ofNat]; omega
    · dsimp only; rw [BitVec.toNat_ofNat]; omega
    · dsimp only; rw [BitVec.toNat_ofNat]; omega
    · intro hx
      dsimp only at hx ⊢
      have hne : s.hdma.len - 1 ≠ 0 := of_decide_eq_true hx
      rw [if_neg hne]
      exact ⟨by omega, rfl⟩
  · exact h

/-- Every host action but a launch keeps the invariants, and touches neither the CPU nor the engine nor the parameters. -/
theorem hostAct_keeps (h : s.BusWf) (x : HostAction) (hx : ∀ L, x ≠ .loadRom L) :
    (s.hostAct x).BusWf ∧ (s.hostAct x).cpu = s.cpu ∧ (s.hostAct x).engine = s.engine ∧ (s.hostAct x).params = s.params := by
  cases x with
  | ppuLy v => exact ⟨h.setIo (by decide) (by decide) (by decide) (by decide), rfl, rfl, rfl⟩
  | ppuStat v =>
    refine ⟨h.setStat ?_, rfl, rfl, rfl⟩
    have := h.stat
    simp [this]
  | requestVblank => exact ⟨h.request _, rfl, rfl, rfl⟩
  | requestLcdStat => exact ⟨h.request _, rfl, rfl, rfl⟩
  | hblankTick =>
    refine ⟨h.hblankTick, ?_⟩
    show s.hblankTick.cpu = _ ∧ s.hblankTick.engine = _ ∧ s.hblankTick.params = _
    unfold State.hblankTick
    have hoff := offBus_hdmaCopy (s := s) (n := 16) (i := 0) s.hdma.src (s.hdma.dst.toNat - 0x8000)
    split
    · exact ⟨congrArg (·.1) hoff, congrArg (·.2.1) hoff, congrArg (·.2.2.2.2.2.2.1) hoff⟩
    · exact ⟨rfl, rfl, rfl⟩
  | setButtons m => exact ⟨{ h with }, rfl, rfl, rfl⟩
  | requestJoypad => exact ⟨h.request _, rfl, rfl, rfl⟩
  | requestSerial => exact ⟨h.request _, rfl, rfl, rfl⟩
  | rtcAdvance live =>
    unfold State.hostAct
    dsimp only
    split
    · next r hc => exact ⟨h.setCart _ (by rw [hc]; rfl), rfl, rfl, rfl⟩
    all_goals exact ⟨h, rfl, rfl, rfl⟩
  | loadSave blob => exact ⟨h.loadSaveData blob, rfl, rfl, rfl⟩
  | loadRom L => exact absurd rfl (hx L)
  | takePaletteWrites => exact ⟨{ h with }, rfl, rfl, rfl⟩
  | pause => exact ⟨h, rfl, rfl, rfl⟩

/-! ## The launch -/

theorem variant_load (x : Variant) : (Cart.load x).variant = x := by cases x <;> rfl

theorem wf_launchIo (m : Memory) (c : Bool) (h : Memory.wf ramFill 0x100 m = true) :
    Memory.wf ramFill 0x100 (Memory.setCells ramFill m (launchIo c)) = true :=
  Memory.wf_setCells _ h (by cases c <;> decide)

/-- The stored I/O byte that a launch leaves at each offset R67 names. -/
theorem get_launchIo (m : Memory) (c : Bool) (h : Memory.wf ramFill 0x100 m = true) :
    ∀ kv ∈ launchIo c, Memory.get ramFill (Memory.setCells ramFill m (launchIo c)) kv.1 = kv.2 := by
  have key : ∀ (cells : List Host.Cell) (m : Memory), Memory.wf ramFill 0x100 m = true → (∀ c ∈ cells, c.1 < 0x100) →
      (cells.Pairwise fun x y => x.1 ≠ y.1) →
      (∀ kv ∈ cells, Memory.get ramFill (Memory.setCells ramFill m cells) kv.1 = kv.2) ∧
      ∀ j, (∀ c ∈ cells, c.1 ≠ j) → Memory.get ramFill (Memory.setCells ramFill m cells) j = Memory.get ramFill m j := by
    intro cells
    induction cells with
    | nil => intro m _ _ _; exact ⟨fun kv hkv => absurd hkv (by simp), fun _ _ => rfl⟩
    | cons x xs ih =>
      intro m hm hlt hp
      rw [List.pairwise_cons] at hp
      obtain ⟨i1, i2⟩ := ih (Memory.set ramFill m x.1 x.2) (Memory.wf_set hm (hlt x (by simp)))
        (fun c hc => hlt c (by simp [hc])) hp.2
      rw [Memory.setCells_cons]
      refine ⟨fun kv hkv => ?_, fun j hj => ?_⟩
      · rcases List.mem_cons.mp hkv with rfl | hkv
        · rw [i2 _ fun c hc => (hp.1 c hc).symm]
          exact Memory.get_set_same hm
        · exact i1 kv hkv
      · rw [i2 j fun c hc => hj c (by simp [hc])]
        exact Memory.get_set_ne (hj x (by simp)).symm
  exact (key (launchIo c) m h (by cases c <;> decide) (by cases c <;> decide)).1

/-- Every controller shows banks 0 and 1 of the ROM at launch (R68). -/
theorem romIndex_load (x : Variant) (n : Nat) : (Cart.load x).romIndex n = n := by
  have hb : (Cart.load x).romBank = 1 := by cases x <;> rfl
  unfold Cart.romIndex
  rw [hb]
  split <;> omega

/-- What the ROM windows read after a launch: the ROM given, 0xFF past its end (R113). -/
theorem busRead_launch_rom (L : LaunchInput) (h : a.toNat ≤ 0x7FFF) : (State.launch L).busRead a = L.rom.getD a.toNat 0xFF := by
  have hr : (Memory.ofBytes romFill 0 L.rom).get romFill (0 + a.toNat) = L.rom.getD a.toNat romFill := Memory.get_ofBytes L.rom
  rw [Nat.zero_add] at hr
  rw [busRead_rom h, show (State.launch L).cart = Cart.load (variantOfType (headerByte L.rom 0x147)) from rfl, romIndex_load]
  unfold State.romByte
  split
  · exact hr
  · next hx => exact (List.getD_eq_default _ _ (Nat.le_of_not_lt hx)).symm

/-- The types with a battery, as numbers (R111). -/
theorem batteryType_iff (t : Byte) : batteryType t = true ↔ t.toNat ∈ [0x03, 0x06, 0x09, 0x0F, 0x10, 0x13, 0x1B, 0x1E] := by
  revert t; decide +kernel

/-- External RAM after a launch: the save blob's bytes, where a battery type has one and as far as it goes, else INIT_ERAM's. -/
theorem get_launchEram (L : LaunchInput) (h : L.wf = true) (hi : i < headerEramSize L.rom) :
    (launchEram L).get ramFill i =
      match L.save with
      | some blob =>
        if batteryType (headerByte L.rom 0x147) = true then blob.getD i (L.initEram.get ramFill i) else L.initEram.get ramFill i
      | none => L.initEram.get ramFill i := by
  simp only [LaunchInput.wf, Bool.and_eq_true] at h
  unfold launchEram
  cases L.save with
  | none => rfl
  | some blob =>
    dsimp only
    split
    · rw [Memory.get_setBytes _ h.1.2, if_pos ⟨Nat.zero_le i, hi⟩, Nat.sub_zero]
    · rfl

/-- A launch from canonical launch contents has every invariant of the bus. -/
theorem launch_busWf (L : LaunchInput) (h : L.wf = true) : (State.launch L).BusWf := by
  simp only [LaunchInput.wf, Bool.and_eq_true] at h
  obtain ⟨⟨⟨⟨⟨h1, h2⟩, h3⟩, h4⟩, h5⟩, h6⟩ := h
  have hget := get_launchIo L.initIo (headerColor L.rom) h4
  have hp : 0 < L.params.divPeriod := by simp [Params.wf] at h6; omega
  have h07 : (State.launch L).ioByte 0x07 = 0xF8 := hget (0x07, 0xF8) (by cases headerColor L.rom <;> decide)
  have h41 : (State.launch L).ioByte 0x41 = 0x85 := hget (0x41, 0x85) (by cases headerColor L.rom <;> decide)
  exact {
    vram := h1, wram := h2, oam := h3, io := wf_launchIo _ _ h4, rom := Memory.wf_ofBytes _
    eram := by
      show Memory.wf ramFill (headerEramSize L.rom) (launchEram L) = true
      unfold launchEram
      split
      · split
        · exact Memory.wf_setBytes _ h5
        · exact h5
      · exact h5
    period := hp, divAcc := hp, timerAcc := show (0 : Nat) < 1024 by decide
    threshold := by rw [h07]; rfl
    wramBank := show (1 : BitVec 3) ≠ 0 by decide
    mono := fun _ => ⟨rfl, rfl, rfl, rfl⟩
    hdmaLen := Nat.zero_le _, hdmaSrc := show (0 : Word) &&& 0x000F = 0 by decide
    hdmaDst := show (0x8000 : Word) &&& 0x000F = 0 by decide, hdmaLow := show 0x8000 ≤ (0x8000 : Word).toNat by decide
    hdmaHigh := show (0x8000 : Word).toNat < 0xA000 by decide
    hdmaLeft := fun ha => Bool.noConfusion ha
    stat := by rw [h41]; decide
    cart := fun hv => by
      show headerEramSize L.rom = 512
      unfold headerEramSize
      rw [if_pos ((variant_load _).symm.trans hv)] }

/-- A ROM load from canonical contents, whatever the host holds. -/
theorem loadRom_busWf (s : State) (L : LaunchInput) (h : L.wf = true) : (s.hostAct (.loadRom L)).BusWf :=
  { launch_busWf L h with }

/-- The default parameters are legal. -/
theorem defaultParams_wf (e : EchoMode) : (defaultParams e).wf = true := by
  have h1 : defaultCycMain.length = 256 := by decide +kernel
  have h2 : defaultCycCb.length = 256 := by decide +kernel
  simp [Params.wf, defaultParams, h1, h2]

/-- The launch input of a machine nothing was loaded into is canonical. -/
theorem empty_wf : LaunchInput.empty.wf = true := by
  have h6 : LaunchInput.empty.params.wf = true := defaultParams_wf _
  unfold LaunchInput.wf
  rw [h6]
  rfl

/-- The memory of the state after reset has the canonical form. -/
theorem reset_memoryWf : State.reset.memoryWf = true := by
  have h := launch_busWf LaunchInput.empty empty_wf
  unfold State.memoryWf
  simp only [Bool.and_eq_true]
  exact ⟨⟨⟨⟨⟨h.vram, h.wram⟩, h.oam⟩, h.io⟩, h.rom⟩, h.eram⟩

/-- A launch leaves the low nibble of F 0. -/
theorem launch_flagsMasked (L : LaunchInput) : (State.launch L).flagsMasked = true := by
  have hf : ∀ c, ((Cpu.launch c).f &&& 0x0F == 0) = true := fun c => by cases c <;> decide
  exact hf _

end Sys2Proof.Machine
end

