-- ==== Sys2Proof/Tests/Slice0.lean ====
section
/-! SUPPORT. The model's own tests: the well-formedness smoke test, every decoding by a word written out from the spec's encoding, one
step for each rule that spec/95_test_vectors.md gives a vector of, and a witness for the hypotheses of every statement that has any. -/

set_option Elab.async false

namespace Sys2Proof.Tests

open Sys2Proof Sys2Proof.Machine

/-! ## Well-formedness -/

/-- The one check of WellFormed refuses its ill-formed term, the bare prefix (R171). -/
theorem test_wellFormed_refuses_prefix : (Instr.prefixCb 0x7C).wellFormed = false := by decide

/-- The instruction that its second byte selects is well formed. -/
theorem test_wellFormed_admits_entry : (Instr.bitReg 7 .h).wellFormed = true := by decide

/-! ## Decoding -/

/-- The sixteen words that begin with the bytes from `first` on decode to these instructions. -/
def readsAs (word : Byte → List Byte) (first : Byte) : List Instr → Bool
  | [] => true
  | i :: is =>
    (match decode (word first) with
     | .ok (j, _) => decide (j = i)
     | .error _ => false) && readsAs word (first + 1) is

/-- One word of each family written out bit by bit from its encoding in 41_load8.md to 47_system.md. -/
theorem test_decode_families :
    decode [0b01010111] = .ok (.ldReg .d .a, []) ∧ decode [0b00101110, 0x7F] = .ok (.ldImm .l 0x7F, []) ∧
    decode [0b01110100] = .ok (.ldToHL .h, []) ∧ decode [0b11101010, 0x04, 0xFF] = .ok (.ldAtA16A 0xFF04, []) ∧
    decode [0b00110001, 0x00, 0xD0] = .ok (.ldPair .sp 0xD000, []) ∧ decode [0b11110101] = .ok (.push .af, []) ∧
    decode [0b10011100] = .ok (.aluReg .sbc .h, []) ∧ decode [0b11111110, 0x3C] = .ok (.aluImm .cp 0x3C, []) ∧
    decode [0b10101110] = .ok (.aluHL .xor, []) ∧ decode [0b00011101] = .ok (.decReg .e, []) ∧
    decode [0b00101001] = .ok (.addHL .hl, []) ∧ decode [0b00011011] = .ok (.decPair .de, []) ∧
    decode [0b00111000, 0x80] = .ok (.jrCond .c 0x80, []) ∧ decode [0b11010100, 0x00, 0x02] = .ok (.callCond .nc 0x0200, []) ∧
    decode [0b11101111] = .ok (.rst 5, []) ∧ decode [0b01110110] = .ok (.halt, []) ∧
    decode [0b11001011, 0b00110111] = .ok (.rotReg .swap .a, []) ∧ decode [0b11001011, 0b01111100] = .ok (.bitReg 7 .h, []) ∧
    decode [0b11001011, 0b10000110] = .ok (.resHL 0, []) ∧ decode [0b11001011, 0b11111000] = .ok (.setReg 7 .b, []) ∧
    decode [0b11101101] = .ok (.illegal .ed, []) := by
  refine ⟨?_, ?_, ?_, ?_, ?_, ?_, ?_, ?_, ?_, ?_, ?_, ?_, ?_, ?_, ?_, ?_, ?_, ?_, ?_, ?_, ?_⟩ <;> rfl

/-- Row 0x of the main table (R168), with the bytes 34 12 after each opcode. -/
theorem test_decode_main_0 : readsAs (fun b => [b, 0x34, 0x12]) 0x00 [
    .nop, .ldBCD16 0x1234, .ldAtBCA, .incBC, .incB, .decB, .ldBD8 0x34, .rlca, .ldAtA16SP 0x1234, .addHLBC, .ldAAtBC, .decBC, .incC, .decC, .ldCD8 0x34, .rrca] := by
  decide +kernel

/-- Row 1x of the main table (R168), with the bytes 34 12 after each opcode. -/
theorem test_decode_main_1 : readsAs (fun b => [b, 0x34, 0x12]) 0x10 [
    .stop 0x34, .ldDED16 0x1234, .ldAtDEA, .incDE, .incD, .decD, .ldDD8 0x34, .rla, .jrE8 0x34, .addHLDE, .ldAAtDE, .decDE, .incE, .decE, .ldED8 0x34, .rra] := by
  decide +kernel

/-- Row 2x of the main table (R168), with the bytes 34 12 after each opcode. -/
theorem test_decode_main_2 : readsAs (fun b => [b, 0x34, 0x12]) 0x20 [
    .jrNZE8 0x34, .ldHLD16 0x1234, .ldAtHLIncA, .incHL, .incH, .decH, .ldHD8 0x34, .daa, .jrZE8 0x34, .addHLHL, .ldAAtHLInc, .decHL, .incL, .decL, .ldLD8 0x34, .cpl] := by
  decide +kernel

/-- Row 3x of the main table (R168), with the bytes 34 12 after each opcode. -/
theorem test_decode_main_3 : readsAs (fun b => [b, 0x34, 0x12]) 0x30 [
    .jrNCE8 0x34, .ldSPD16 0x1234, .ldAtHLDecA, .incSP, .incAtHL, .decAtHL, .ldAtHLD8 0x34, .scf, .jrCE8 0x34, .addHLSP, .ldAAtHLDec, .decSP, .incA, .decA, .ldAD8 0x34, .ccf] := by
  decide +kernel

/-- Row 4x of the main table (R168), with the bytes 34 12 after each opcode. -/
theorem test_decode_main_4 : readsAs (fun b => [b, 0x34, 0x12]) 0x40 [
    .ldBB, .ldBC, .ldBD, .ldBE, .ldBH, .ldBL, .ldBAtHL, .ldBA, .ldCB, .ldCC, .ldCD, .ldCE, .ldCH, .ldCL, .ldCAtHL, .ldCA] := by
  decide +kernel

/-- Row 5x of the main table (R168), with the bytes 34 12 after each opcode. -/
theorem test_decode_main_5 : readsAs (fun b => [b, 0x34, 0x12]) 0x50 [
    .ldDB, .ldDC, .ldDD, .ldDE, .ldDH, .ldDL, .ldDAtHL, .ldDA, .ldEB, .ldEC, .ldED, .ldEE, .ldEH, .ldEL, .ldEAtHL, .ldEA] := by
  decide +kernel

/-- Row 6x of the main table (R168), with the bytes 34 12 after each opcode. -/
theorem test_decode_main_6 : readsAs (fun b => [b, 0x34, 0x12]) 0x60 [
    .ldHB, .ldHC, .ldHD, .ldHE, .ldHH, .ldHL, .ldHAtHL, .ldHA, .ldLB, .ldLC, .ldLD, .ldLE, .ldLH, .ldLL, .ldLAtHL, .ldLA] := by
  decide +kernel

/-- Row 7x of the main table (R168), with the bytes 34 12 after each opcode. -/
theorem test_decode_main_7 : readsAs (fun b => [b, 0x34, 0x12]) 0x70 [
    .ldAtHLB, .ldAtHLC, .ldAtHLD, .ldAtHLE, .ldAtHLH, .ldAtHLL, .halt, .ldAtHLA, .ldAB, .ldAC, .ldAD, .ldAE, .ldAH, .ldAL, .ldAAtHL, .ldAA] := by
  decide +kernel

/-- Row 8x of the main table (R168), with the bytes 34 12 after each opcode. -/
theorem test_decode_main_8 : readsAs (fun b => [b, 0x34, 0x12]) 0x80 [
    .addAB, .addAC, .addAD, .addAE, .addAH, .addAL, .addAAtHL, .addAA, .adcAB, .adcAC, .adcAD, .adcAE, .adcAH, .adcAL, .adcAAtHL, .adcAA] := by
  decide +kernel

/-- Row 9x of the main table (R168), with the bytes 34 12 after each opcode. -/
theorem test_decode_main_9 : readsAs (fun b => [b, 0x34, 0x12]) 0x90 [
    .subB, .subC, .subD, .subE, .subH, .subL, .subAtHL, .subA, .sbcAB, .sbcAC, .sbcAD, .sbcAE, .sbcAH, .sbcAL, .sbcAAtHL, .sbcAA] := by
  decide +kernel

/-- Row Ax of the main table (R168), with the bytes 34 12 after each opcode. -/
theorem test_decode_main_a : readsAs (fun b => [b, 0x34, 0x12]) 0xA0 [
    .andB, .andC, .andD, .andE, .andH, .andL, .andAtHL, .andA, .xorB, .xorC, .xorD, .xorE, .xorH, .xorL, .xorAtHL, .xorA] := by
  decide +kernel

/-- Row Bx of the main table (R168), with the bytes 34 12 after each opcode. -/
theorem test_decode_main_b : readsAs (fun b => [b, 0x34, 0x12]) 0xB0 [
    .orB, .orC, .orD, .orE, .orH, .orL, .orAtHL, .orA, .cpB, .cpC, .cpD, .cpE, .cpH, .cpL, .cpAtHL, .cpA] := by
  decide +kernel

/-- Row Cx of the main table (R168), with the bytes 34 12 after each opcode. -/
theorem test_decode_main_c : readsAs (fun b => [b, 0x34, 0x12]) 0xC0 [
    .retNZ, .popBC, .jpNZA16 0x1234, .jpA16 0x1234, .callNZA16 0x1234, .pushBC, .addAD8 0x34, .rst00, .retZ, .ret, .jpZA16 0x1234, .swapH, .callZA16 0x1234, .callA16 0x1234, .adcAD8 0x34, .rst08] := by
  decide +kernel

/-- Row Dx of the main table (R168), with the bytes 34 12 after each opcode. -/
theorem test_decode_main_d : readsAs (fun b => [b, 0x34, 0x12]) 0xD0 [
    .retNC, .popDE, .jpNCA16 0x1234, .illegalD3, .callNCA16 0x1234, .pushDE, .subD8 0x34, .rst10, .retC, .reti, .jpCA16 0x1234, .illegalDB, .callCA16 0x1234, .illegalDD, .sbcAD8 0x34, .rst18] := by
  decide +kernel

/-- Row Ex of the main table (R168), with the bytes 34 12 after each opcode. -/
theorem test_decode_main_e : readsAs (fun b => [b, 0x34, 0x12]) 0xE0 [
    .ldhAtA8A 0x34, .popHL, .ldAtCA, .illegalE3, .illegalE4, .pushHL, .andD8 0x34, .rst20, .addSPE8 0x34, .jpHL, .ldAtA16A 0x1234, .illegalEB, .illegalEC, .illegalED, .xorD8 0x34, .rst28] := by
  decide +kernel

/-- Row Fx of the main table (R168), with the bytes 34 12 after each opcode. -/
theorem test_decode_main_f : readsAs (fun b => [b, 0x34, 0x12]) 0xF0 [
    .ldhAAtA8 0x34, .popAF, .ldAAtC, .di, .illegalF4, .pushAF, .orD8 0x34, .rst30, .ldHLSPE8 0x34, .ldSPHL, .ldAAtA16 0x1234, .ei, .illegalFC, .illegalFD, .cpD8 0x34, .rst38] := by
  decide +kernel

/-- Row 0x of the CB table (R169). -/
theorem test_decode_cb_0 : readsAs (fun b => [0xCB, b]) 0x00 [
    .rlcB, .rlcC, .rlcD, .rlcE, .rlcH, .rlcL, .rlcAtHL, .rlcA, .rrcB, .rrcC, .rrcD, .rrcE, .rrcH, .rrcL, .rrcAtHL, .rrcA] := by
  decide +kernel

/-- Row 1x of the CB table (R169). -/
theorem test_decode_cb_1 : readsAs (fun b => [0xCB, b]) 0x10 [
    .rlB, .rlC, .rlD, .rlE, .rlH, .rlL, .rlAtHL, .rlA, .rrB, .rrC, .rrD, .rrE, .rrH, .rrL, .rrAtHL, .rrA] := by
  decide +kernel

/-- Row 2x of the CB table (R169). -/
theorem test_decode_cb_2 : readsAs (fun b => [0xCB, b]) 0x20 [
    .slaB, .slaC, .slaD, .slaE, .slaH, .slaL, .slaAtHL, .slaA, .sraB, .sraC, .sraD, .sraE, .sraH, .sraL, .sraAtHL, .sraA] := by
  decide +kernel

/-- Row 3x of the CB table (R169). -/
theorem test_decode_cb_3 : readsAs (fun b => [0xCB, b]) 0x30 [
    .swapB, .swapC, .swapD, .swapE, .swapH, .swapL, .swapAtHL, .swapA, .srlB, .srlC, .srlD, .srlE, .srlH, .srlL, .srlAtHL, .srlA] := by
  decide +kernel

/-- Row 4x of the CB table (R169). -/
theorem test_decode_cb_4 : readsAs (fun b => [0xCB, b]) 0x40 [
    .bit0B, .bit0C, .bit0D, .bit0E, .bit0H, .bit0L, .bit0AtHL, .bit0A, .bit1B, .bit1C, .bit1D, .bit1E, .bit1H, .bit1L, .bit1AtHL, .bit1A] := by
  decide +kernel

/-- Row 5x of the CB table (R169). -/
theorem test_decode_cb_5 : readsAs (fun b => [0xCB, b]) 0x50 [
    .bit2B, .bit2C, .bit2D, .bit2E, .bit2H, .bit2L, .bit2AtHL, .bit2A, .bit3B, .bit3C, .bit3D, .bit3E, .bit3H, .bit3L, .bit3AtHL, .bit3A] := by
  decide +kernel

/-- Row 6x of the CB table (R169). -/
theorem test_decode_cb_6 : readsAs (fun b => [0xCB, b]) 0x60 [
    .bit4B, .bit4C, .bit4D, .bit4E, .bit4H, .bit4L, .bit4AtHL, .bit4A, .bit5B, .bit5C, .bit5D, .bit5E, .bit5H, .bit5L, .bit5AtHL, .bit5A] := by
  decide +kernel

/-- Row 7x of the CB table (R169). -/
theorem test_decode_cb_7 : readsAs (fun b => [0xCB, b]) 0x70 [
    .bit6B, .bit6C, .bit6D, .bit6E, .bit6H, .bit6L, .bit6AtHL, .bit6A, .bit7B, .bit7C, .bit7D, .bit7E, .bit7H, .bit7L, .bit7AtHL, .bit7A] := by
  decide +kernel

/-- Row 8x of the CB table (R169). -/
theorem test_decode_cb_8 : readsAs (fun b => [0xCB, b]) 0x80 [
    .res0B, .res0C, .res0D, .res0E, .res0H, .res0L, .res0AtHL, .res0A, .res1B, .res1C, .res1D, .res1E, .res1H, .res1L, .res1AtHL, .res1A] := by
  decide +kernel

/-- Row 9x of the CB table (R169). -/
theorem test_decode_cb_9 : readsAs (fun b => [0xCB, b]) 0x90 [
    .res2B, .res2C, .res2D, .res2E, .res2H, .res2L, .res2AtHL, .res2A, .res3B, .res3C, .res3D, .res3E, .res3H, .res3L, .res3AtHL, .res3A] := by
  decide +kernel

/-- Row Ax of the CB table (R169). -/
theorem test_decode_cb_a : readsAs (fun b => [0xCB, b]) 0xA0 [
    .res4B, .res4C, .res4D, .res4E, .res4H, .res4L, .res4AtHL, .res4A, .res5B, .res5C, .res5D, .res5E, .res5H, .res5L, .res5AtHL, .res5A] := by
  decide +kernel

/-- Row Bx of the CB table (R169). -/
theorem test_decode_cb_b : readsAs (fun b => [0xCB, b]) 0xB0 [
    .res6B, .res6C, .res6D, .res6E, .res6H, .res6L, .res6AtHL, .res6A, .res7B, .res7C, .res7D, .res7E, .res7H, .res7L, .res7AtHL, .res7A] := by
  decide +kernel

/-- Row Cx of the CB table (R169). -/
theorem test_decode_cb_c : readsAs (fun b => [0xCB, b]) 0xC0 [
    .set0B, .set0C, .set0D, .set0E, .set0H, .set0L, .set0AtHL, .set0A, .set1B, .set1C, .set1D, .set1E, .set1H, .set1L, .set1AtHL, .set1A] := by
  decide +kernel

/-- Row Dx of the CB table (R169). -/
theorem test_decode_cb_d : readsAs (fun b => [0xCB, b]) 0xD0 [
    .set2B, .set2C, .set2D, .set2E, .set2H, .set2L, .set2AtHL, .set2A, .set3B, .set3C, .set3D, .set3E, .set3H, .set3L, .set3AtHL, .set3A] := by
  decide +kernel

/-- Row Ex of the CB table (R169). -/
theorem test_decode_cb_e : readsAs (fun b => [0xCB, b]) 0xE0 [
    .set4B, .set4C, .set4D, .set4E, .set4H, .set4L, .set4AtHL, .set4A, .set5B, .set5C, .set5D, .set5E, .set5H, .set5L, .set5AtHL, .set5A] := by
  decide +kernel

/-- Row Fx of the CB table (R169). -/
theorem test_decode_cb_f : readsAs (fun b => [0xCB, b]) 0xF0 [
    .set6B, .set6C, .set6D, .set6E, .set6H, .set6L, .set6AtHL, .set6A, .set7B, .set7C, .set7D, .set7E, .set7H, .set7L, .set7AtHL, .set7A] := by
  decide +kernel

/-! ## Single steps -/

/-- The launch state with these bytes at 0x0100 of a 32 KiB ROM, these bytes then written through the bus, and these registers: the start
of the vectors of spec/95_test_vectors.md. -/
def start (bytes : List Byte) (cpu : Cpu → Cpu) (cells : List (Word × Byte)) : State :=
  let s := { State.reset with rom := Memory.ofBytes romFill 0x100 bytes, romLen := 0x8000 }
  (cells.foldl (fun s c => s.busWrite c.1 c.2) s).mapCpu cpu

/-- The state after one step. -/
def after (s : State) : State :=
  match step s with
  | .next t => t
  | .fault _ => s
  | .refused _ => s

/-- The machine of `start` in color mode. -/
def colorStart (bytes : List Byte) (cpu : Cpu → Cpu) (cells : List (Word × Byte)) : State :=
  { start bytes cpu [] with color := true } |> fun s => cells.foldl (fun s c => s.busWrite c.1 c.2) s

/-- V-LD8-1 (R230). -/
theorem test_ld8_1 :
    let t := after (start [0x41] (fun c => { c with c := 0x5A }) [])
    t.cpu.b = 0x5A ∧ t.cpu.pc = 0x0101 ∧ t.engine.cycles = 4 := by
  decide +kernel

/-- V-LD8-3 (R231). -/
theorem test_ld8_3 :
    let t := after (start [0x0E, 0x7F] (id) [])
    t.cpu.c = 0x7F ∧ t.cpu.pc = 0x0102 ∧ t.engine.cycles = 8 := by
  decide +kernel

/-- V-LD8-6 (R234). -/
theorem test_ld8_6 :
    let t := after (start [0x36, 0x99] (fun c => { c with h := 0xC0, l := 0x00 }) [])
    t.cpu.pc = 0x0102 ∧ t.busRead 0xC000 = 0x99 ∧ t.engine.cycles = 12 := by
  decide +kernel

/-- V-LD8-7 (R235). -/
theorem test_ld8_7 :
    let t := after (start [0x0A] (fun c => { c with b := 0xC0, c := 0x10 }) [(0xC010, 0x77)])
    t.cpu.a = 0x77 ∧ t.cpu.pc = 0x0101 ∧ t.engine.cycles = 8 := by
  decide +kernel

/-- V-LD8-9 (R239). -/
theorem test_ld8_9 :
    let t := after (start [0xFA, 0x23, 0xC1] (id) [(0xC123, 0xAB)])
    t.cpu.a = 0xAB ∧ t.cpu.pc = 0x0103 ∧ t.engine.cycles = 16 := by
  decide +kernel

/-- V-LD8-11 (R241). -/
theorem test_ld8_11 :
    let t := after (start [0xF0, 0x0F] (id) [(0xFF0F, 0x01)])
    t.cpu.a = 0xE1 ∧ t.cpu.pc = 0x0102 ∧ t.engine.cycles = 12 := by
  decide +kernel

/-- V-LD8-12 (R242). -/
theorem test_ld8_12 :
    let t := after (start [0xE0, 0x80] (fun c => { c with a := 0x42 }) [])
    t.cpu.pc = 0x0102 ∧ t.busRead 0xFF80 = 0x42 ∧ t.engine.cycles = 12 := by
  decide +kernel

/-- V-LD8-13 (R243). -/
theorem test_ld8_13 :
    let t := after (start [0xF2] (fun c => { c with c := 0x80 }) [(0xFF80, 0x9C)])
    t.cpu.a = 0x9C ∧ t.cpu.pc = 0x0101 ∧ t.engine.cycles = 8 := by
  decide +kernel

/-- V-LD8-14 (R244). -/
theorem test_ld8_14 :
    let t := after (start [0xE2] (fun c => { c with c := 0x41, a := 0x03 }) [])
    t.cpu.pc = 0x0101 ∧ t.busRead 0xFF41 = 0x83 ∧ t.engine.cycles = 8 := by
  decide +kernel

/-- V-LD8-15 (R245). -/
theorem test_ld8_15 :
    let t := after (start [0x22] (fun c => { c with h := 0xFF, l := 0xFF, a := 0x1F }) [])
    t.cpu.h = 0x00 ∧ t.cpu.l = 0x00 ∧ t.cpu.pc = 0x0101 ∧ t.busRead 0xFFFF = 0x1F ∧ t.engine.cycles = 8 := by
  decide +kernel

/-- V-LD8-16 (R246). -/
theorem test_ld8_16 :
    let t := after (start [0x32] (fun c => { c with h := 0xC0, l := 0x01, a := 0x66 }) [])
    t.cpu.l = 0x00 ∧ t.cpu.pc = 0x0101 ∧ t.busRead 0xC001 = 0x66 ∧ t.engine.cycles = 8 := by
  decide +kernel

/-- V-LD8-17 (R247). -/
theorem test_ld8_17 :
    let t := after (start [0x2A] (fun c => { c with h := 0xC0, l := 0x00 }) [(0xC000, 0x10)])
    t.cpu.a = 0x10 ∧ t.cpu.l = 0x01 ∧ t.cpu.pc = 0x0101 ∧ t.engine.cycles = 8 := by
  decide +kernel

/-- V-LD8-18 (R248). -/
theorem test_ld8_18 :
    let t := after (start [0x3A] (fun c => { c with h := 0xC0, l := 0x00 }) [(0xC000, 0x20)])
    t.cpu.a = 0x20 ∧ t.cpu.h = 0xBF ∧ t.cpu.l = 0xFF ∧ t.cpu.pc = 0x0101 ∧ t.engine.cycles = 8 := by
  decide +kernel

/-- V-LD8-21 (R79). -/
theorem test_ld8_21 :
    let t := after (start [0xFA, 0xA0, 0xFE] (id) [])
    t.cpu.a = 0xFF ∧ t.cpu.pc = 0x0103 ∧ t.engine.cycles = 16 := by
  decide +kernel

/-- V-LD16-1 (R261). -/
theorem test_ld16_1 :
    let t := after (start [0x01, 0x34, 0x12] (id) [])
    t.cpu.b = 0x12 ∧ t.cpu.c = 0x34 ∧ t.cpu.pc = 0x0103 ∧ t.engine.cycles = 12 := by
  decide +kernel

/-- V-LD16-3 (R262). -/
theorem test_ld16_3 :
    let t := after (start [0x08, 0x00, 0xC0] (fun c => { c with sp := 0xFFF8 }) [])
    t.cpu.pc = 0x0103 ∧ t.busRead 0xC000 = 0xF8 ∧ t.busRead 0xC001 = 0xFF ∧ t.engine.cycles = 20 := by
  decide +kernel

/-- V-LD16-4 (R263). -/
theorem test_ld16_4 :
    let t := after (start [0xF9] (fun c => { c with h := 0xC0, l := 0xDE }) [])
    t.cpu.sp = 0xC0DE ∧ t.cpu.pc = 0x0101 ∧ t.engine.cycles = 8 := by
  decide +kernel

/-- V-LD16-5 (R264). -/
theorem test_ld16_5 :
    let t := after (start [0xF8, 0x02] (fun c => { c with sp := 0xFFF8, f := 0xF0 }) [])
    t.cpu.f = 0x00 ∧ t.cpu.h = 0xFF ∧ t.cpu.l = 0xFA ∧ t.cpu.pc = 0x0102 ∧ t.engine.cycles = 12 := by
  decide +kernel

/-- V-LD16-8 (R265). -/
theorem test_ld16_8 :
    let t := after (start [0xC5] (fun c => { c with sp := 0xFFFE, b := 0x12, c := 0x34 }) [])
    t.cpu.sp = 0xFFFC ∧ t.cpu.pc = 0x0101 ∧ t.busRead 0xFFFD = 0x12 ∧ t.busRead 0xFFFC = 0x34 ∧ t.engine.cycles = 16 := by
  decide +kernel

/-- V-LD16-9 (R266). -/
theorem test_ld16_9 :
    let t := after (start [0xD1] (fun c => { c with sp := 0xFFFC }) [(0xFFFC, 0x34), (0xFFFD, 0x12)])
    t.cpu.d = 0x12 ∧ t.cpu.e = 0x34 ∧ t.cpu.sp = 0xFFFE ∧ t.cpu.pc = 0x0101 ∧ t.engine.cycles = 12 := by
  decide +kernel

/-- V-LD16-10 (R267). -/
theorem test_ld16_10 :
    let t := after (start [0xF1] (fun c => { c with sp := 0xFFFC }) [(0xFFFC, 0xFF), (0xFFFD, 0x00)])
    t.cpu.a = 0x00 ∧ t.cpu.f = 0xF0 ∧ t.cpu.sp = 0xFFFE ∧ t.cpu.pc = 0x0101 ∧ t.engine.cycles = 12 := by
  decide +kernel

/-- V-LD16-12 (R260). -/
theorem test_ld16_12 :
    let t := after (start [0xC5] (fun c => { c with sp := 0x0001, b := 0xAB, c := 0xCD }) [])
    t.cpu.sp = 0xFFFF ∧ t.cpu.pc = 0x0101 ∧ t.busRead 0xFFFF = 0xCD ∧ t.engine.cycles = 16 := by
  decide +kernel

/-- V-ALU8-1 (R280). -/
theorem test_alu8_1 :
    let t := after (start [0x80] (fun c => { c with a := 0x3A, b := 0xC6 }) [])
    t.cpu.a = 0x00 ∧ t.cpu.f = 0xB0 ∧ t.cpu.pc = 0x0101 ∧ t.engine.cycles = 4 := by
  decide +kernel

/-- V-ALU8-3 (R281). -/
theorem test_alu8_3 :
    let t := after (start [0x86] (fun c => { c with a := 0x80, h := 0xC0, l := 0x00 }) [(0xC000, 0x80)])
    t.cpu.a = 0x00 ∧ t.cpu.f = 0x90 ∧ t.cpu.pc = 0x0101 ∧ t.engine.cycles = 8 := by
  decide +kernel

/-- V-ALU8-4 (R282). -/
theorem test_alu8_4 :
    let t := after (start [0xC6, 0x01] (fun c => { c with a := 0xFF }) [])
    t.cpu.a = 0x00 ∧ t.cpu.f = 0xB0 ∧ t.cpu.pc = 0x0102 ∧ t.engine.cycles = 8 := by
  decide +kernel

/-- V-ALU8-5 (R285). -/
theorem test_alu8_5 :
    let t := after (start [0xCE, 0x0F] (fun c => { c with a := 0xE1, f := 0x10 }) [])
    t.cpu.a = 0xF1 ∧ t.cpu.f = 0x20 ∧ t.cpu.pc = 0x0102 ∧ t.engine.cycles = 8 := by
  decide +kernel

/-- V-ALU8-7 (R283). -/
theorem test_alu8_7 :
    let t := after (start [0x8F] (fun c => { c with a := 0xFF, f := 0x10 }) [])
    t.cpu.f = 0x30 ∧ t.cpu.pc = 0x0101 ∧ t.engine.cycles = 4 := by
  decide +kernel

/-- V-ALU8-8 (R286). -/
theorem test_alu8_8 :
    let t := after (start [0x93] (fun c => { c with a := 0x3E, e := 0x3E }) [])
    t.cpu.a = 0x00 ∧ t.cpu.f = 0xC0 ∧ t.cpu.pc = 0x0101 ∧ t.engine.cycles = 4 := by
  decide +kernel

/-- V-ALU8-9 (R288). -/
theorem test_alu8_9 :
    let t := after (start [0xD6, 0x0F] (fun c => { c with a := 0x3E }) [])
    t.cpu.a = 0x2F ∧ t.cpu.f = 0x60 ∧ t.cpu.pc = 0x0102 ∧ t.engine.cycles = 8 := by
  decide +kernel

/-- V-ALU8-11 (R289). -/
theorem test_alu8_11 :
    let t := after (start [0x9C] (fun c => { c with a := 0x3B, h := 0x2A, f := 0x10 }) [])
    t.cpu.a = 0x10 ∧ t.cpu.f = 0x40 ∧ t.cpu.pc = 0x0101 ∧ t.engine.cycles = 4 := by
  decide +kernel

/-- V-ALU8-14 (R291). -/
theorem test_alu8_14 :
    let t := after (start [0xDE, 0xFF] (fun c => { c with a := 0x00, f := 0x10 }) [])
    t.cpu.f = 0xF0 ∧ t.cpu.pc = 0x0102 ∧ t.engine.cycles = 8 := by
  decide +kernel

/-- V-ALU8-15 (R292). -/
theorem test_alu8_15 :
    let t := after (start [0xA5] (fun c => { c with a := 0x5A, l := 0x3F }) [])
    t.cpu.a = 0x1A ∧ t.cpu.f = 0x20 ∧ t.cpu.pc = 0x0101 ∧ t.engine.cycles = 4 := by
  decide +kernel

/-- V-ALU8-16 (R294). -/
theorem test_alu8_16 :
    let t := after (start [0xE6, 0x00] (fun c => { c with a := 0x5A }) [])
    t.cpu.a = 0x00 ∧ t.cpu.f = 0xA0 ∧ t.cpu.pc = 0x0102 ∧ t.engine.cycles = 8 := by
  decide +kernel

/-- V-ALU8-17 (R295). -/
theorem test_alu8_17 :
    let t := after (start [0xAF] (fun c => { c with a := 0xFF, f := 0x70 }) [])
    t.cpu.a = 0x00 ∧ t.cpu.f = 0x80 ∧ t.cpu.pc = 0x0101 ∧ t.engine.cycles = 4 := by
  decide +kernel

/-- V-ALU8-19 (R299). -/
theorem test_alu8_19 :
    let t := after (start [0xB6] (fun c => { c with a := 0x00, h := 0xC0, l := 0x00, f := 0x70 }) [(0xC000, 0x00)])
    t.cpu.f = 0x80 ∧ t.cpu.pc = 0x0101 ∧ t.engine.cycles = 8 := by
  decide +kernel

/-- V-ALU8-20 (R300). -/
theorem test_alu8_20 :
    let t := after (start [0xF6, 0x03] (fun c => { c with a := 0x5A }) [])
    t.cpu.a = 0x5B ∧ t.cpu.f = 0x00 ∧ t.cpu.pc = 0x0102 ∧ t.engine.cycles = 8 := by
  decide +kernel

/-- V-ALU8-21 (R301). -/
theorem test_alu8_21 :
    let t := after (start [0xB8] (fun c => { c with a := 0x3C, b := 0x2F }) [])
    t.cpu.f = 0x60 ∧ t.cpu.pc = 0x0101 ∧ t.engine.cycles = 4 := by
  decide +kernel

/-- V-ALU8-22 (R303). -/
theorem test_alu8_22 :
    let t := after (start [0xFE, 0x3C] (fun c => { c with a := 0x3C }) [])
    t.cpu.f = 0xC0 ∧ t.cpu.pc = 0x0102 ∧ t.engine.cycles = 8 := by
  decide +kernel

/-- V-ALU8-24 (R304). -/
theorem test_alu8_24 :
    let t := after (start [0x04] (fun c => { c with b := 0xFF, f := 0x10 }) [])
    t.cpu.f = 0xB0 ∧ t.cpu.b = 0x00 ∧ t.cpu.pc = 0x0101 ∧ t.engine.cycles = 4 := by
  decide +kernel

/-- V-ALU8-27 (R306). -/
theorem test_alu8_27 :
    let t := after (start [0x15] (fun c => { c with d := 0x01, f := 0x10 }) [])
    t.cpu.f = 0xD0 ∧ t.cpu.d = 0x00 ∧ t.cpu.pc = 0x0101 ∧ t.engine.cycles = 4 := by
  decide +kernel

/-- V-ALU8-29 (R307). -/
theorem test_alu8_29 :
    let t := after (start [0x35] (fun c => { c with h := 0xC0, l := 0x00, f := 0x10 }) [(0xC000, 0x10)])
    t.cpu.f = 0x70 ∧ t.cpu.pc = 0x0101 ∧ t.busRead 0xC000 = 0x0F ∧ t.engine.cycles = 12 := by
  decide +kernel

/-- V-ALU8-30 (R308). -/
theorem test_alu8_30 :
    let t := after (start [0x27] (fun c => { c with a := 0x7D, f := 0x00 }) [])
    t.cpu.a = 0x83 ∧ t.cpu.pc = 0x0101 ∧ t.engine.cycles = 4 := by
  decide +kernel

/-- V-ALU8-35 (R309). -/
theorem test_alu8_35 :
    let t := after (start [0x2F] (fun c => { c with a := 0x35, f := 0x80 }) [])
    t.cpu.a = 0xCA ∧ t.cpu.f = 0xE0 ∧ t.cpu.pc = 0x0101 ∧ t.engine.cycles = 4 := by
  decide +kernel

/-- V-ALU8-36 (R310). -/
theorem test_alu8_36 :
    let t := after (start [0x37] (fun c => { c with f := 0xE0 }) [])
    t.cpu.f = 0x90 ∧ t.cpu.pc = 0x0101 ∧ t.engine.cycles = 4 := by
  decide +kernel

/-- V-ALU8-37 (R311). -/
theorem test_alu8_37 :
    let t := after (start [0x3F] (fun c => { c with f := 0xF0 }) [])
    t.cpu.f = 0x80 ∧ t.cpu.pc = 0x0101 ∧ t.engine.cycles = 4 := by
  decide +kernel

/-- V-ALU16-1 (R315). -/
theorem test_alu16_1 :
    let t := after (start [0x09] (fun c => { c with h := 0x8A, l := 0x23, b := 0x06, c := 0x05, f := 0x80 }) [])
    t.cpu.f = 0xA0 ∧ t.cpu.h = 0x90 ∧ t.cpu.l = 0x28 ∧ t.cpu.pc = 0x0101 ∧ t.engine.cycles = 8 := by
  decide +kernel

/-- V-ALU16-4 (R316). -/
theorem test_alu16_4 :
    let t := after (start [0x03] (fun c => { c with b := 0xFF, c := 0xFF, f := 0x00 }) [])
    t.cpu.b = 0x00 ∧ t.cpu.c = 0x00 ∧ t.cpu.pc = 0x0101 ∧ t.engine.cycles = 8 := by
  decide +kernel

/-- V-ALU16-5 (R317). -/
theorem test_alu16_5 :
    let t := after (start [0x3B] (fun c => { c with sp := 0x0000 }) [])
    t.cpu.sp = 0xFFFF ∧ t.cpu.pc = 0x0101 ∧ t.engine.cycles = 8 := by
  decide +kernel

/-- V-ALU16-6 (R318). -/
theorem test_alu16_6 :
    let t := after (start [0xE8, 0x08] (fun c => { c with sp := 0xFFF8, f := 0xC0 }) [])
    t.cpu.f = 0x30 ∧ t.cpu.sp = 0x0000 ∧ t.cpu.pc = 0x0102 ∧ t.engine.cycles = 16 := by
  decide +kernel

/-- V-ROT-1 (R320). -/
theorem test_rot_1 :
    let t := after (start [0x07] (fun c => { c with a := 0x85, f := 0x00 }) [])
    t.cpu.a = 0x0B ∧ t.cpu.f = 0x10 ∧ t.cpu.pc = 0x0101 ∧ t.engine.cycles = 4 := by
  decide +kernel

/-- V-ROT-4 (R321). -/
theorem test_rot_4 :
    let t := after (start [0x17] (fun c => { c with a := 0x80, f := 0x00 }) [])
    t.cpu.a = 0x00 ∧ t.cpu.f = 0x90 ∧ t.cpu.pc = 0x0101 ∧ t.engine.cycles = 4 := by
  decide +kernel

/-- V-ROT-6 (R322). -/
theorem test_rot_6 :
    let t := after (start [0x0F] (fun c => { c with a := 0x01, f := 0x00 }) [])
    t.cpu.a = 0x80 ∧ t.cpu.f = 0x10 ∧ t.cpu.pc = 0x0101 ∧ t.engine.cycles = 4 := by
  decide +kernel

/-- V-ROT-7 (R323). -/
theorem test_rot_7 :
    let t := after (start [0x1F] (fun c => { c with a := 0x01, f := 0x00 }) [])
    t.cpu.a = 0x00 ∧ t.cpu.f = 0x90 ∧ t.cpu.pc = 0x0101 ∧ t.engine.cycles = 4 := by
  decide +kernel

/-- V-ROT-9 (R324). -/
theorem test_rot_9 :
    let t := after (start [0xCB, 0x00] (fun c => { c with b := 0x85, f := 0x00 }) [])
    t.cpu.f = 0x10 ∧ t.cpu.b = 0x0B ∧ t.cpu.pc = 0x0102 ∧ t.engine.cycles = 8 := by
  decide +kernel

/-- V-ROT-10 (R325). -/
theorem test_rot_10 :
    let t := after (start [0xCB, 0x06] (fun c => { c with h := 0xC0, l := 0x00, f := 0x10 }) [(0xC000, 0x00)])
    t.cpu.f = 0x80 ∧ t.cpu.pc = 0x0102 ∧ t.busRead 0xC000 = 0x00 ∧ t.engine.cycles = 16 := by
  decide +kernel

/-- V-ROT-11 (R326). -/
theorem test_rot_11 :
    let t := after (start [0xCB, 0x09] (fun c => { c with c := 0x01, f := 0x00 }) [])
    t.cpu.f = 0x10 ∧ t.cpu.c = 0x80 ∧ t.cpu.pc = 0x0102 ∧ t.engine.cycles = 8 := by
  decide +kernel

/-- V-ROT-12 (R328). -/
theorem test_rot_12 :
    let t := after (start [0xCB, 0x12] (fun c => { c with d := 0x80, f := 0x00 }) [])
    t.cpu.f = 0x90 ∧ t.cpu.d = 0x00 ∧ t.cpu.pc = 0x0102 ∧ t.engine.cycles = 8 := by
  decide +kernel

/-- V-ROT-13 (R330). -/
theorem test_rot_13 :
    let t := after (start [0xCB, 0x1B] (fun c => { c with e := 0x8A, f := 0x10 }) [])
    t.cpu.f = 0x00 ∧ t.cpu.e = 0xC5 ∧ t.cpu.pc = 0x0102 ∧ t.engine.cycles = 8 := by
  decide +kernel

/-- V-ROT-14 (R332). -/
theorem test_rot_14 :
    let t := after (start [0xCB, 0x24] (fun c => { c with h := 0x80, f := 0x00 }) [])
    t.cpu.f = 0x90 ∧ t.cpu.h = 0x00 ∧ t.cpu.pc = 0x0102 ∧ t.engine.cycles = 8 := by
  decide +kernel

/-- V-ROT-15 (R334). -/
theorem test_rot_15 :
    let t := after (start [0xCB, 0x2D] (fun c => { c with l := 0x8A, f := 0x00 }) [])
    t.cpu.l = 0xC5 ∧ t.cpu.pc = 0x0102 ∧ t.engine.cycles = 8 := by
  decide +kernel

/-- V-ROT-17 (R336). -/
theorem test_rot_17 :
    let t := after (start [0xCB, 0x37] (fun c => { c with a := 0xF0, f := 0x10 }) [])
    t.cpu.a = 0x0F ∧ t.cpu.f = 0x00 ∧ t.cpu.pc = 0x0102 ∧ t.engine.cycles = 8 := by
  decide +kernel

/-- V-ROT-19 (R338). -/
theorem test_rot_19 :
    let t := after (start [0xCB, 0x3F] (fun c => { c with a := 0xFF, f := 0x00 }) [])
    t.cpu.a = 0x7F ∧ t.cpu.f = 0x10 ∧ t.cpu.pc = 0x0102 ∧ t.engine.cycles = 8 := by
  decide +kernel

/-- V-ROT-20 (R339). -/
theorem test_rot_20 :
    let t := after (start [0xCB, 0x3E] (fun c => { c with h := 0xC0, l := 0x00, f := 0x00 }) [(0xC000, 0x01)])
    t.cpu.f = 0x90 ∧ t.cpu.pc = 0x0102 ∧ t.busRead 0xC000 = 0x00 ∧ t.engine.cycles = 16 := by
  decide +kernel

/-- V-ROT-21 (R340). -/
theorem test_rot_21 :
    let t := after (start [0xCB, 0x7C] (fun c => { c with h := 0x7F, f := 0x10 }) [])
    t.cpu.f = 0xB0 ∧ t.cpu.pc = 0x0102 ∧ t.engine.cycles = 8 := by
  decide +kernel

/-- V-ROT-23 (R341). -/
theorem test_rot_23 :
    let t := after (start [0xCB, 0x46] (fun c => { c with h := 0xC0, l := 0x00, f := 0x00 }) [(0xC000, 0xFE)])
    t.cpu.f = 0xA0 ∧ t.cpu.pc = 0x0102 ∧ t.busRead 0xC000 = 0xFE ∧ t.engine.cycles = 12 := by
  decide +kernel

/-- V-ROT-24 (R342). -/
theorem test_rot_24 :
    let t := after (start [0xCB, 0xBF] (fun c => { c with a := 0xFF, f := 0x30 }) [])
    t.cpu.a = 0x7F ∧ t.cpu.pc = 0x0102 ∧ t.engine.cycles = 8 := by
  decide +kernel

/-- V-ROT-25 (R343). -/
theorem test_rot_25 :
    let t := after (start [0xCB, 0x86] (fun c => { c with h := 0xC0, l := 0x00 }) [(0xC000, 0xFF)])
    t.cpu.pc = 0x0102 ∧ t.busRead 0xC000 = 0xFE ∧ t.engine.cycles = 16 := by
  decide +kernel

/-- V-ROT-26 (R344). -/
theorem test_rot_26 :
    let t := after (start [0xCB, 0xF8] (fun c => { c with b := 0x00 }) [])
    t.cpu.b = 0x80 ∧ t.cpu.pc = 0x0102 ∧ t.engine.cycles = 8 := by
  decide +kernel

/-- V-ROT-27 (R345). -/
theorem test_rot_27 :
    let t := after (start [0xCB, 0xC6] (fun c => { c with h := 0xC0, l := 0x00 }) [(0xC000, 0x00)])
    t.cpu.pc = 0x0102 ∧ t.busRead 0xC000 = 0x01 ∧ t.engine.cycles = 16 := by
  decide +kernel

/-- V-CTL-1 (R350). -/
theorem test_ctl_1 :
    let t := after (start [0xC3, 0x50, 0x01] (id) [])
    t.cpu.pc = 0x0150 ∧ t.engine.cycles = 16 := by
  decide +kernel

/-- V-CTL-2 (R351). -/
theorem test_ctl_2 :
    let t := after (start [0xCA, 0x00, 0x02] (fun c => { c with f := 0x80 }) [])
    t.cpu.pc = 0x0200 ∧ t.engine.cycles = 16 := by
  decide +kernel

/-- V-CTL-4 (R352). -/
theorem test_ctl_4 :
    let t := after (start [0xE9] (fun c => { c with h := 0xC0, l := 0x00 }) [])
    t.cpu.pc = 0xC000 ∧ t.engine.cycles = 4 := by
  decide +kernel

/-- V-CTL-5 (R353). -/
theorem test_ctl_5 :
    let t := after (start [0x18, 0x05] (id) [])
    t.cpu.pc = 0x0107 ∧ t.engine.cycles = 12 := by
  decide +kernel

/-- V-CTL-8 (R354). -/
theorem test_ctl_8 :
    let t := after (start [0x20, 0x10] (fun c => { c with f := 0x00 }) [])
    t.cpu.pc = 0x0112 ∧ t.engine.cycles = 12 := by
  decide +kernel

/-- V-CTL-11 (R355). -/
theorem test_ctl_11 :
    let t := after (start [0xCD, 0x00, 0x02] (fun c => { c with sp := 0xFFFE }) [])
    t.cpu.sp = 0xFFFC ∧ t.cpu.pc = 0x0200 ∧ t.busRead 0xFFFD = 0x01 ∧ t.busRead 0xFFFC = 0x03 ∧ t.engine.cycles = 24 := by
  decide +kernel

/-- V-CTL-12 (R356). -/
theorem test_ctl_12 :
    let t := after (start [0xDC, 0x00, 0x02] (fun c => { c with f := 0x00 }) [])
    t.cpu.pc = 0x0103 ∧ t.engine.cycles = 12 := by
  decide +kernel

/-- V-CTL-14 (R357). -/
theorem test_ctl_14 :
    let t := after (start [0xC9] (fun c => { c with sp := 0xFFFC }) [(0xFFFC, 0x63), (0xFFFD, 0x01)])
    t.cpu.sp = 0xFFFE ∧ t.cpu.pc = 0x0163 ∧ t.engine.cycles = 16 := by
  decide +kernel

/-- V-CTL-15 (R358). -/
theorem test_ctl_15 :
    let t := after (start [0xC0] (fun c => { c with f := 0x80, sp := 0xFFFC }) [])
    t.cpu.pc = 0x0101 ∧ t.engine.cycles = 8 := by
  decide +kernel

/-- V-CTL-18 (R360). -/
theorem test_ctl_18 :
    let t := after (start [0xFF] (fun c => { c with sp := 0xFFFE }) [])
    t.cpu.sp = 0xFFFC ∧ t.cpu.pc = 0x0038 ∧ t.busRead 0xFFFD = 0x01 ∧ t.busRead 0xFFFC = 0x01 ∧ t.engine.cycles = 16 := by
  decide +kernel

/-- V-SYS-1 (R370). -/
theorem test_sys_1 :
    let t := after (start [0x00] (id) [])
    t.cpu.pc = 0x0101 ∧ t.engine.cycles = 4 := by
  decide +kernel

/-- V-SYS-11 (R375). -/
theorem test_sys_11 :
    let t := after (start [0xD3] (id) [])
    t.cpu.pc = 0x0101 ∧ t.engine.cycles = 4 := by
  decide +kernel

/-- V-SYS-13 (R376). -/
theorem test_sys_13 :
    let t := after (start [0xCB, 0x00] (fun c => { c with b := 0x85, f := 0x00 }) [])
    t.cpu.f = 0x10 ∧ t.cpu.b = 0x0B ∧ t.cpu.pc = 0x0102 ∧ t.engine.cycles = 8 := by
  decide +kernel

/-- V-LD8-10: a store to DIV clears the divider's phase before the step's own cycles are counted (R91, R465). -/
theorem test_ld8_10 :
    let s := start [0xEA, 0x04, 0xFF] (fun c => { c with a := 0x5E }) []
    let t := after { s.setIo 0x04 0x37 with timer := { s.timer with divAcc := 100 } }
    t.ioByte 0x04 = 0x00 ∧ t.timer.divAcc = 16 ∧ t.cpu.pc = 0x0103 := by
  decide +kernel

/-- V-LD8-19 and V-LD8-20: the echo region in both settings (R77). -/
theorem test_ld8_19_20 :
    let s := start [0xFA, 0x00, 0xE0] id [(0xC000, 0x55)]
    (after { s with params := defaultParams .stub }).cpu.a = 0xFF ∧
    (after { s with params := defaultParams .mirror }).cpu.a = 0x55 := by
  decide +kernel

/-- V-ROT-3 and V-ROT-5: ACC_ROT_Z = Clear (R223). -/
theorem test_rot_3_5 :
    let p := { defaultParams .stub with accRotZ := .clear }
    (after { start [0x07] (fun c => { c with a := 0x00, f := 0x00 }) [] with params := p }).cpu.f = 0x00 ∧
    (after { start [0x17] (fun c => { c with a := 0x80, f := 0x00 }) [] with params := p }).cpu.f = 0x10 := by
  decide +kernel

/-- V-CTL-3, V-CTL-9: a jump not taken (R351, R354). -/
theorem test_ctl_3_9 :
    let t := after (start [0xCA, 0x00, 0x02] (fun c => { c with f := 0x00 }) [])
    let u := after (start [0x20, 0x10] (fun c => { c with f := 0x80 }) [])
    t.cpu.pc = 0x0103 ∧ t.engine.cycles = 12 ∧ u.cpu.pc = 0x0102 ∧ u.engine.cycles = 8 := by
  decide +kernel

/-- V-CTL-17: RETI (R359). -/
theorem test_ctl_17 :
    let t := after (start [0xD9] (fun c => { c with sp := 0xFFFC }) [(0xFFFC, 0x00), (0xFFFD, 0x02)])
    t.cpu.sp = 0xFFFE ∧ t.cpu.pc = 0x0200 ∧ t.engine.ime = true ∧ t.engine.cycles = 16 := by
  decide +kernel

/-- V-SYS-4: a source requested and enabled is dispatched in the step of HALT (R372, R464). -/
theorem test_sys_4 :
    let t := after ((start [0x76] id [(0xFFFF, 0x04), (0xFF0F, 0x04)]).mapEngine (fun g => { g with ime := true }))
    t.cpu.sp = 0xFFFC ∧ t.cpu.pc = 0x0050 ∧ t.engine.ime = false ∧ t.engine.halted = false ∧ t.engine.cycles = 24 ∧
    t.timer.divAcc = 24 ∧ t.ioByte 0x0F = 0x00 ∧ t.busRead 0xFFFD = 0x01 ∧ t.busRead 0xFFFC = 0x01 := by
  decide +kernel

/-- V-SYS-3: a HALT that falls through (R372, R409). -/
theorem test_sys_3 :
    let t := after (start [0x76] id [(0xFFFF, 0x04), (0xFF0F, 0x04)])
    t.cpu.pc = 0x0101 ∧ t.engine.halted = false ∧ t.ioByte 0x0F = 0x04 ∧ t.cpu.sp = 0xFFFE := by
  decide +kernel

/-- V-SYS-6: EI sets the enable in its own step and dispatches nothing (R374). -/
theorem test_sys_6 :
    let t := after (start [0xFB] id [(0xFFFF, 0x01), (0xFF0F, 0x01)])
    t.cpu.pc = 0x0101 ∧ t.engine.ime = true ∧ t.engine.imeEnabling = false ∧ t.ioByte 0x0F = 0x01 := by
  decide +kernel

/-- V-SYS-5: DI (R373). -/
theorem test_sys_5 :
    (after ((start [0xF3] id []).mapEngine (fun g => { g with ime := true, imeEnabling := true }))).engine.ime = false := by
  decide +kernel

/-- V-SYS-9 and V-SYS-10: STOP in monochrome mode, and with the speed switch armed in color mode, KEY1 then reading 0xFE (R371). -/
theorem test_sys_9_10 :
    let t := after (start [0x10, 0x00] id [])
    let u := after (colorStart [0x10, 0x00] id [(0xFF4D, 0x01)])
    t.cpu.pc = 0x0102 ∧ t.engine.stopped = true ∧ t.engine.cycles = 4 ∧
    u.cpu.pc = 0x0102 ∧ u.engine.stopped = false ∧ u.busRead 0xFF4D = 0xFE := by
  decide +kernel

/-- V-INT-1, the source's priority example (R404). -/
theorem test_int_1 :
    let t := after ((start [0x00] id [(0xFFFF, 0xFF), (0xFF0F, 0x05)]).mapEngine (fun g => { g with ime := true }))
    t.cpu.pc = 0x0040 ∧ t.cpu.sp = 0xFFFC ∧ t.engine.ime = false ∧ t.ioByte 0x0F = 0x04 ∧ t.engine.cycles = 24 ∧
    t.busRead 0xFFFD = 0x01 ∧ t.busRead 0xFFFC = 0x01 := by
  decide +kernel

/-- V-INT-16: the dispatch clears IF before it pushes, and the pushed byte lands on IF (R405; D50). -/
theorem test_int_16 :
    let t := after ((start [0x00] (fun c => { c with sp := 0xFF11 }) [(0xFFFF, 0x01), (0xFF0F, 0x01)]).mapEngine
      (fun g => { g with ime := true }))
    t.cpu.pc = 0x0040 ∧ t.cpu.sp = 0xFF0F ∧ t.ioByte 0x10 = 0x01 ∧ t.ioByte 0x0F = 0x01 := by
  decide +kernel

/-- V-INT-8 and V-INT-9: the reload on overflow, and one increment from 24 cycles (R412). -/
theorem test_int_8_9 :
    let s := start [0x00] id [(0xFF07, 0x05), (0xFF05, 0xFF), (0xFF06, 0xAB), (0xFF0F, 0x00)]
    let t := after { s with timer := { s.timer with timerAcc := 12 } }
    let u := after (start [0xCD, 0x00, 0x02] id [(0xFF07, 0x05), (0xFF05, 0xFE)])
    t.ioByte 0x05 = 0xAB ∧ t.ioByte 0x0F = 0x04 ∧ t.timer.timerAcc = 0 ∧ u.ioByte 0x05 = 0xFF ∧ u.timer.timerAcc = 8 := by
  decide +kernel

/-- V-INT-11 and V-INT-12, their second step: DIV counts once a period, for both periods (R411). -/
theorem test_int_11_12 :
    let s := start [0x00] id []
    let r := { s.setIo 0x04 0x10 with timer := { s.timer with divAcc := 254 } }
    let t := after r
    let u := after { r with params := { defaultParams .stub with divPeriod := 255 } }
    t.ioByte 0x04 = 0x11 ∧ t.timer.divAcc = 2 ∧ u.ioByte 0x04 = 0x11 ∧ u.timer.divAcc = 3 := by
  decide +kernel

/-- V-INT-15, its fifth step: a stopped step that only wakes (R410). -/
theorem test_int_15 :
    let s := (start [0x10, 0x00, 0x00] (fun c => { c with pc := 0x0102 }) [(0xFFFF, 0x10), (0xFF0F, 0x10)]).mapEngine
      (fun g => { g with ime := true, stopped := true })
    let t := after s
    t.engine.stopped = false ∧ t.cpu.pc = 0x0102 ∧ t.engine.ime = true ∧ t.ioByte 0x0F = 0x10 ∧ t.engine.cycles = 4 := by
  decide +kernel

/-! ## The bus, the cartridge and the host -/

/-- A cartridge of a controller, with its bank's number at offset 0x10 of two banks and 0x8000 bytes of external RAM. -/
def cartridge (v : Variant) (banks : List Nat) : State :=
  { start [] id [] with
    cart := Cart.load v, romLen := 0x800000, eramSize := if v = .mbc2 then 512 else 0x8000,
    rom := banks.foldl (fun m b => m.set romFill (b * 0x4000 + 0x10) (BitVec.ofNat 8 b)) [] }

/-- Bus writes one after another. -/
def writes (s : State) (cells : List (Word × Byte)) : State := cells.foldl (fun s c => s.busWrite c.1 c.2) s

/-- V-MEM-2, the source's property 3: raw bank 0x20 selects bank 0x21 (R120; C8). -/
theorem test_mem_2 :
    let s := cartridge .mbc1 [0x01, 0x05, 0x20, 0x21, 0x25]
    (writes s [(0x2000, 0x00), (0x4000, 0x01)]).busRead 0x4010 = 0x21 ∧
    (writes s [(0x4000, 0x01), (0x2000, 0x05)]).busRead 0x4010 = 0x25 ∧
    (writes s [(0x4000, 0x01), (0x2000, 0x05), (0x6000, 0x01)]).busRead 0x4010 = 0x05 := by
  decide +kernel

/-- V-MEM-3, the source's property 4: the RAM-enable latch (R116, R121). -/
theorem test_mem_3 :
    let s := cartridge .mbc1 []
    (writes s [(0xA000, 0x42)]).busRead 0xA000 = 0xFF ∧
    (writes s [(0x0000, 0x0A), (0xA000, 0x42)]).busRead 0xA000 = 0x42 ∧
    (writes s [(0x0000, 0x0A), (0xA000, 0x42), (0x0000, 0x00)]).busRead 0xA000 = 0xFF := by
  decide +kernel

/-- V-MEM-5: MBC2 (R122, R123). -/
theorem test_mem_5 :
    let s := cartridge .mbc2 [0x01, 0x03]
    let t := writes s [(0x0000, 0x0A), (0xA001, 0x5C)]
    (writes s [(0x2100, 0x03)]).busRead 0x4010 = 0x03 ∧ (writes s [(0x2100, 0x00)]).busRead 0x4010 = 0x01 ∧
    t.busRead 0xA001 = 0xFC ∧ t.busRead 0xA201 = 0xFC := by
  decide +kernel

/-- V-MEM-6: the MBC3 clock and its latch (R126 to R129). -/
theorem test_mem_6 :
    let s := writes (cartridge .mbc3 [0x01, 0x45]) [(0x0000, 0x0A), (0x4000, 0x08), (0xA000, 0x2A)]
    let t := writes s [(0x6000, 0x00), (0x6000, 0x01)]
    let u := writes t [(0xA000, 0x15), (0x6000, 0x01)]
    s.busRead 0xA000 = 0x00 ∧ t.busRead 0xA000 = 0x2A ∧ u.busRead 0xA000 = 0x2A ∧
    (writes u [(0x6000, 0x00), (0x6000, 0x01)]).busRead 0xA000 = 0x15 ∧
    (writes s [(0x2000, 0x00)]).busRead 0x4010 = 0x01 ∧ (writes s [(0x2000, 0x45)]).busRead 0x4010 = 0x45 := by
  decide +kernel

/-- V-MEM-7: MBC5 (R130, R131). -/
theorem test_mem_7 :
    let s := cartridge .mbc5 [0x00, 0x105]
    (writes s [(0x2000, 0x00)]).busRead 0x4010 = 0x00 ∧ (writes s [(0x2000, 0x05), (0x3000, 0x01)]).busRead 0x4010 = 0x05 := by
  decide +kernel

/-- V-MEM-9 and V-MEM-10: SVBK in both modes (R87, R100, R107). -/
theorem test_mem_9_10 :
    let c := colorStart [] id [(0xFF70, 3), (0xD000, 0x33), (0xFF70, 1), (0xD000, 0x11)]
    let m := start [] id [(0xFF70, 0x03)]
    (writes c [(0xFF70, 0x00)]).busRead 0xFF70 = 0xF9 ∧ (writes c [(0xFF70, 0x03)]).busRead 0xD000 = 0x33 ∧
    (writes c [(0xFF70, 0x0C)]).wramBank = 4 ∧ m.busRead 0xFF70 = 0x03 ∧ m.wramBank = 1 := by
  decide +kernel

/-- V-MEM-11: the OAM DMA, at the two ends of the copy (R97). -/
theorem test_mem_11 :
    let s := start [] id [(0xC100, 0x5A), (0xC19F, 0xC5), (0xC1A0, 0x77), (0xFF46, 0xC1)]
    s.busRead 0xFE00 = 0x5A ∧ s.busRead 0xFE9F = 0xC5 ∧ s.busRead 0xFEA0 = 0xFF ∧ s.busRead 0xFF46 = 0xC1 := by
  decide +kernel

/-- V-MEM-12: a general-purpose HDMA, at the two ends of the copy (R102). -/
theorem test_mem_12 :
    let s := colorStart [] id [(0xC000, 0x80), (0xC01F, 0x9F), (0xFF51, 0xC0), (0xFF52, 0x05), (0xFF53, 0x81), (0xFF54, 0x0F),
      (0xFF55, 0x01)]
    s.busRead 0x8100 = 0x80 ∧ s.busRead 0x811F = 0x9F ∧ s.busRead 0xFF55 = 0xFF := by
  decide +kernel

/-- V-MEM-13: an HBlank HDMA, one tick, and its cancel (R102, R103). -/
theorem test_mem_13 :
    let s := colorStart [] id [(0xC001, 0x01), (0xC00F, 0x0F), (0xFF51, 0xC0), (0xFF55, 0x82)]
    let t := s.hblankTick
    let u := t.busWrite 0xFF55 0x00
    s.busRead 0xFF55 = 0x02 ∧ t.busRead 0x8001 = 0x01 ∧ t.busRead 0x800F = 0x0F ∧ t.busRead 0xFF55 = 0x01 ∧
    u.busRead 0xFF55 = 0x81 ∧ u.hdma.active = false := by
  decide +kernel

/-- V-MEM-14: LY, STAT, IF and JOYP (R82, R84, R90, R95, R96). -/
theorem test_mem_14 :
    let s := { start [] id [] with buttons := 0x05 }
    (s.busWrite 0xFF44 0x99).busRead 0xFF44 = 0x00 ∧ (s.busWrite 0xFF41 0x00).busRead 0xFF41 = 0x80 ∧
    (s.busWrite 0xFF0F 0x00).busRead 0xFF0F = 0xE0 ∧ (s.busWrite 0xFF00 0x20).busRead 0xFF00 = 0xEA ∧
    (s.busWrite 0xFF00 0x10).busRead 0xFF00 = 0xDF := by
  decide +kernel

/-! ## Witnesses: for each statement with hypotheses, states and operands that meet them, clause by clause -/

/-- Every instruction answers a next state. -/
theorem execNext (i : Instr) (s : State) : ∃ t, exec i s = .next t :=
  let ⟨t, h, _⟩ := exec_effect i s
  ⟨t, h⟩

/-- Every step answers a next state. -/
theorem stepNext (s : State) : ∃ t, step s = .next t :=
  let ⟨_, h, _⟩ := step_effect s
  ⟨_, h⟩

/-- Whether these addresses lie from `lo` to `hi`, as the clauses of the statements bound them. -/
def within (lo hi : Nat) (as : List Word) : Bool := as.all (fun a => decide (lo ≤ a.toNat) && decide (a.toNat ≤ hi))

/-- O3. -/
theorem witness_DecodeOfEncode : (Instr.callNZA16 0x1234).wellFormed = true := by decide

/-- O4: a CB byte first, and a byte string that decode accepts. -/
theorem witness_DecodingIsTotal :
    (∃ b0 : Byte, b0 = 0xCB) ∧ decode [0xCB, 0x7C, 0x00] = .ok (.bitReg 7 .h, [0x00]) ∧ decode [0xFF] = .ok (.rst 7, []) :=
  ⟨⟨0xCB, rfl⟩, rfl, rfl⟩

/-- O5: a running state, and a halted one with a source requested and enabled. -/
theorem witness_StepRunsDecoded :
    (∃ (s : State) (i : Instr) (rest : List Byte), s.engine.stopped = false ∧ s.engine.halted = false ∧
      decode (s.fetchBytes 3) = .ok (i, rest)) ∧
    (∃ (s : State) (i : Instr) (rest : List Byte), s.engine.stopped = false ∧ s.engine.halted = true ∧
      s.ifByte &&& s.ieByte &&& 0x1F ≠ 0 ∧ decode (s.fetchBytes 3) = .ok (i, rest)) := by
  refine ⟨⟨start [0xC3, 0x50, 0x01] id [], .jpA16 0x0150, [], by decide +kernel, by decide +kernel, by decide +kernel⟩,
    ⟨(start [0x00, 0x34, 0x12] id [(0xFFFF, 0x10), (0xFF0F, 0x10)]).mapEngine (fun g => { g with halted := true }), .nop, [0x34, 0x12],
      by decide +kernel, by decide +kernel, by decide +kernel, by decide +kernel⟩⟩

/-- O6: the last byte of three. -/
theorem witness_FetchReadsTheBus : ∃ (s : State) (n k : Nat), k < n ∧ s.isDraw (s.cpu.pc + BitVec.ofNat 16 k) = false :=
  ⟨start [] id [], 3, 2, by decide +kernel, by decide +kernel⟩

/-- O7: a halted state and a stopped one. -/
theorem witness_WaitingStep :
    (∃ s : State, s.engine.stopped = false ∧ s.engine.halted = true ∧ s.ifByte &&& s.ieByte &&& 0x1F = 0) ∧
    (∃ s : State, s.engine.stopped = true) :=
  ⟨⟨(start [] id []).mapEngine (fun g => { g with halted := true }), by decide +kernel, by decide +kernel, by decide +kernel⟩,
   ⟨(start [] id []).mapEngine (fun g => { g with stopped := true }), by decide +kernel⟩⟩

/-- O9, O10 and O60, and O59's two clauses: steps from the state after reset. -/
theorem witness_Steps : ∃ s t : State, step s = .next t ∧ (∃ echo, s.params = defaultParams echo) ∧ s.cpu.f.toNat % 16 = 0 ∧
    s.banksWf = true :=
  let ⟨t, h⟩ := stepNext State.reset
  ⟨State.reset, t, h, ⟨Config.echoMode, rfl⟩, by decide +kernel, by decide +kernel⟩

/-- O11: one clause of each kind. -/
theorem witness_DefaultCycleCosts :
    (∃ (i : Instr) (q r : Reg8), i = .ldReg q r) ∧ (∃ i : Instr, i ∈ [Instr.ret, .reti]) ∧ (∃ (i : Instr) (b : Fin 8), i = .bitHL b) :=
  ⟨⟨_, .b, .a, rfl⟩, ⟨.ret, by decide +kernel⟩, ⟨_, 7, rfl⟩⟩

/-- O14. -/
theorem witness_MemoryLoads : ∃ (m : LoadForm) (s : State), s.isDraw (m.addr s) = false :=
  ⟨.fromA16 0xFFFF, start [] id [], by decide +kernel⟩

/-- O16: a plain cell in WRAM, one in OAM, and IE. -/
theorem witness_StoreFrame : ∀ m ∈ [StoreForm.toA16 0xC000, .toA16 0xFE9F, .toA8 0xFF], ∃ s t : State, s.memoryWf = true ∧
    s.wramBank ≠ 0 ∧ s.plainCell (m.addr s) = true ∧ exec m.instr s = .next t := by
  intro m hm
  obtain ⟨t, h⟩ := execNext m.instr State.reset
  refine ⟨State.reset, t, reset_memoryWf, by decide +kernel, ?_, h⟩
  simp only [List.mem_cons, List.not_mem_nil, or_false] at hm
  rcases hm with rfl | rfl | rfl <;> decide +kernel

/-- O18 and O35: a stack slot that is no open port. -/
theorem witness_PopsAndReturns : ∃ s : State, s.isDraw s.cpu.sp = false ∧ s.isDraw (s.cpu.sp + 1) = false ∧ s.cpu.cond .z = true :=
  ⟨State.reset, by decide +kernel, by decide +kernel, by decide +kernel⟩

/-- O19. -/
theorem witness_PushThenPop : ∃ s t u : State, s.memoryWf = true ∧ s.wramBank ≠ 0 ∧ s.plainCell (s.cpu.sp - 1) = true ∧
    s.plainCell (s.cpu.sp - 2) = true ∧ exec (.push .bc) s = .next t ∧ exec (.pop .af) t = .next u := by
  obtain ⟨t, h⟩ := execNext (.push .bc) State.reset
  obtain ⟨u, h'⟩ := execNext (.pop .af) t
  exact ⟨State.reset, t, u, reset_memoryWf, by decide +kernel, by decide +kernel, by decide +kernel, h, h'⟩

/-- O23: SUB then ADD, and DEC. -/
theorem witness_SourceAluProperties :
    (∃ s t u : State, exec (.subD8 0x40) s = .next t ∧ exec (.addAD8 0x40) t = .next u) ∧
    (∃ s t : State, exec (.decReg .d) s = .next t) := by
  obtain ⟨t, h⟩ := execNext (.subD8 0x40) State.reset
  obtain ⟨u, h'⟩ := execNext (.addAD8 0x40) t
  exact ⟨⟨_, t, u, h, h'⟩, _, execNext _ State.reset⟩

/-- O26: HL at the last byte of high RAM. -/
theorem witness_ModifyMemoryFrame : ∃ s t : State, s.memoryWf = true ∧ s.wramBank ≠ 0 ∧ s.plainCell s.cpu.hl = true ∧
    exec (ModifyOp.inc.instr .atHL) s = .next t := by
  obtain ⟨t, h⟩ := execNext (ModifyOp.inc.instr .atHL) (start [] (fun c => { c with h := 0xFF, l := 0xFE }) [])
  exact ⟨_, t, by decide +kernel, by decide +kernel, by decide +kernel, h⟩

/-- O27: both values of N. -/
theorem witness_AccumulatorOperations : (∃ s : State, s.cpu.flagN = false) ∧ (∃ s : State, s.cpu.flagN = true) :=
  ⟨⟨start [] (fun c => { c with f := 0xB0 }) [], by decide +kernel⟩, ⟨start [] (fun c => { c with f := 0x60 }) [], by decide +kernel⟩⟩

/-- O28: 99 + 1 and 0 - 99, each followed by DAA. -/
theorem witness_DecimalArithmetic :
    (∃ s t u : State, s.cpu.a.toNat = 99 / 10 * 16 + 99 % 10 ∧ exec (.adcAD8 (BitVec.ofNat 8 (1 / 10 * 16 + 1 % 10))) s = .next t ∧
      exec .daa t = .next u) ∧
    (∃ s t u : State, s.cpu.a.toNat = 0 / 10 * 16 + 0 % 10 ∧ exec (.sbcAD8 (BitVec.ofNat 8 (99 / 10 * 16 + 99 % 10))) s = .next t ∧
      exec .daa t = .next u) := by
  obtain ⟨t, h⟩ := execNext (.adcAD8 (BitVec.ofNat 8 (1 / 10 * 16 + 1 % 10))) (State.reset.mapCpu (fun c => { c with a := 0x99 }))
  obtain ⟨u, h1⟩ := execNext .daa t
  obtain ⟨v, h2⟩ := execNext (.sbcAD8 (BitVec.ofNat 8 (99 / 10 * 16 + 99 % 10))) (State.reset.mapCpu (fun c => { c with a := 0x00 }))
  obtain ⟨w, h3⟩ := execNext .daa v
  exact ⟨⟨_, t, u, by decide +kernel, h, h1⟩, ⟨_, v, w, by decide +kernel, h2, h3⟩⟩

/-- O36: the switch armed in color mode, and each way it is not. -/
theorem witness_SystemInstructions :
    (∃ s : State, s.color = true ∧ s.speed.armed = true) ∧ (∃ s : State, s.color = false) ∧
    (∃ s : State, s.color = true ∧ s.speed.armed = false) :=
  ⟨⟨colorStart [] id [(0xFF4D, 0x01)], by decide +kernel, by decide +kernel⟩, ⟨State.reset, by decide +kernel⟩,
   ⟨colorStart [] id [], by decide +kernel, by decide +kernel⟩⟩

/-- The state after reset with a chosen value of ECHO_MODE. -/
def resetEcho (m : EchoMode) : State := { State.reset with params := defaultParams m }

/-- O37: both ends of both regions, in both settings. -/
theorem witness_EchoAndUnusable :
    (∃ s : State, s.params.echoMode = .stub) ∧ (∃ s : State, s.params.echoMode = .mirror) ∧
    within 0xE000 0xFDFF [0xE000, 0xFDFF] = true ∧ within 0xFEA0 0xFEFF [0xFEA0, 0xFEFF] = true :=
  ⟨⟨resetEcho .stub, rfl⟩, ⟨resetEcho .mirror, rfl⟩, by decide +kernel, by decide +kernel⟩

/-- O38 and O40: both modes, and the first and last palette ports. -/
theorem witness_ColorPorts : (∃ s : State, s.color = true) ∧ (∃ s : State, s.color = false) ∧
    (∀ k ∈ [0x68, 0x6B], 0x68 ≤ k ∧ k ≤ 0x6B) :=
  ⟨⟨colorStart [] id [], by decide +kernel⟩, ⟨State.reset, by decide +kernel⟩, by decide⟩

/-- O39: canonical memories, both interrupt registers, and both ends of the sound range. -/
theorem witness_PortWrites : (∃ s : State, s.memoryWf = true) ∧ (∃ a : Word, a = 0xFF0F ∨ a = 0xFFFF) ∧
    (0xFF0F : Word) ≠ 0xFFFF ∧ (∀ k ∈ [0x10, 0x3F], 0x10 ≤ k ∧ k ≤ 0x3F) :=
  ⟨⟨State.reset, reset_memoryWf⟩, ⟨0xFFFF, Or.inr rfl⟩, by decide, by decide⟩

/-- O41: the first and the last byte of a copy from WRAM. -/
theorem witness_OamDma : ∃ (s : State) (v : Byte), s.memoryWf = true ∧
    ∀ i ∈ [0, 0x9F], i < 0xA0 ∧ s.isDraw ((v ++ 0#8 : Word) + BitVec.ofNat 16 i) = false :=
  ⟨State.reset, 0xC0, reset_memoryWf, by decide +kernel⟩

/-- O42: arming at 0x80 and 0xFF, a cancel, and an immediate copy of one block from WRAM whose source is neither open nor in VRAM. -/
theorem witness_HdmaTrigger :
    (∃ s : State, s.color = true ∧ 128 ≤ (0x80 : Byte).toNat ∧ 128 ≤ (0xFF : Byte).toNat) ∧
    (∃ s : State, s.color = true ∧ (0x7F : Byte).toNat < 128 ∧ s.hdma.active = true) ∧
    (∃ (s : State) (src : Nat), s.color = true ∧ s.hdma.active = false ∧ s.memoryWf = true ∧
      src = (s.ioByte 0x51).toNat * 256 + (s.ioByte 0x52).toNat / 16 * 16 ∧
      ∀ j < ((0 : Byte).toNat + 1) * 16, s.isDraw (BitVec.ofNat 16 (src + j)) = false ∧
        ((src + j) % 65536 < 0x8000 ∨ 0x9FFF < (src + j) % 65536)) :=
  ⟨⟨colorStart [] id [], by decide +kernel, by decide, by decide⟩,
   ⟨colorStart [] id [(0xFF51, 0xC0), (0xFF55, 0x82)], by decide +kernel, by decide +kernel, by decide +kernel⟩,
   ⟨colorStart [] id [(0xFF51, 0xC0)], 0xC000, by decide +kernel, by decide +kernel, by decide +kernel, by decide +kernel,
    by decide +kernel⟩⟩

/-- O43: no transfer, and an active one from WRAM in a legal state. -/
theorem witness_HblankTick :
    (∃ s : State, s.hdma.active = false) ∧
    (∃ s : State, s.hdma.active = true ∧ s.legal = true ∧
      ∀ j < 16, s.isDraw (s.hdma.src + BitVec.ofNat 16 j) = false ∧
        ((s.hdma.src + BitVec.ofNat 16 j).toNat < 0x8000 ∨ 0x9FFF < (s.hdma.src + BitVec.ofNat 16 j).toNat)) :=
  ⟨⟨State.reset, by decide +kernel⟩,
   ⟨colorStart [] id [(0xFF51, 0xC0), (0xFF55, 0x82)], by decide +kernel, by decide +kernel, by decide +kernel⟩⟩

/-- O44 to O48: a state of every controller, and the ends of every address range. -/
theorem witness_Cartridges :
    (∃ s : State, s.cart = .plainRom) ∧ (∃ (s : State) (r : Mbc1), s.cart = .mbc1 r) ∧
    (∃ (s : State) (r : Mbc2), s.cart = .mbc2 r ∧ s.eramSize = 512 ∧ r.ramEnabled = false) ∧
    (∃ (s : State) (r : Mbc2), s.cart = .mbc2 r ∧ s.eramSize = 512 ∧ r.ramEnabled = true) ∧
    (∃ (s : State) (r : Mbc3), s.cart = .mbc3 r ∧ r.ramEnabled = false) ∧
    (∃ (s : State) (r : Mbc3), s.cart = .mbc3 r ∧ r.ramEnabled = true ∧ r.ramSel = .ram 3) ∧
    (∃ (s : State) (r : Mbc3), s.cart = .mbc3 r ∧ r.ramEnabled = true ∧ r.ramSel = .clock .dayHigh ∧ r.latchArmed = true) ∧
    (∃ (s : State) (r : Mbc5), s.cart = .mbc5 r ∧ r.ramEnabled = false) ∧
    (∃ (s : State) (r : Mbc5), s.cart = .mbc5 r ∧ r.ramEnabled = true) :=
  ⟨⟨cartridge .plainRom [], rfl⟩, ⟨cartridge .mbc1 [], _, rfl⟩, ⟨cartridge .mbc2 [], _, rfl, rfl, rfl⟩,
   ⟨{ cartridge .mbc2 [] with cart := .mbc2 { ramEnabled := true, romBank := 0 } }, _, rfl, rfl, rfl⟩,
   ⟨cartridge .mbc3 [], _, rfl, rfl⟩,
   ⟨{ cartridge .mbc3 [] with cart := .mbc3 { ramEnabled := true, romBank := 0, ramSel := .ram 3, live := Rtc.zero, latched := Rtc.zero,
                                              latchArmed := false } }, _, rfl, rfl, rfl⟩,
   ⟨{ cartridge .mbc3 [] with cart := .mbc3 { ramEnabled := true, romBank := 0, ramSel := .clock .dayHigh, live := Rtc.zero,
                                              latched := Rtc.zero, latchArmed := true } }, _, rfl, rfl, rfl, rfl⟩,
   ⟨cartridge .mbc5 [], _, rfl, rfl⟩,
   ⟨{ cartridge .mbc5 [] with cart := .mbc5 { ramEnabled := true, romBank := 1, ramBank := 15 } }, _, rfl, rfl⟩⟩

/-- O44 to O48: the address ranges of the control ports, the ROM windows and external RAM at both ends. -/
theorem witness_CartridgeRanges :
    within 0 0x1FFF [0x0000, 0x1FFF] = true ∧ within 0 0x3FFF [0x0000, 0x3FFF] = true ∧ within 0 0x7FFF [0x0000, 0x7FFF] = true ∧
    within 0x2000 0x3FFF [0x2000, 0x3FFF] = true ∧ within 0x2000 0x2FFF [0x2000, 0x2FFF] = true ∧
    within 0x3000 0x3FFF [0x3000, 0x3FFF] = true ∧ within 0x4000 0x5FFF [0x4000, 0x5FFF] = true ∧
    within 0x6000 0x7FFF [0x6000, 0x7FFF] = true ∧ within 0x4000 0x7FFF [0x4000, 0x7FFF] = true ∧
    within 0xA000 0xBFFF [0xA000, 0xBFFF] = true := by
  decide +kernel

/-- O46 and O47: MBC2's address bit 8, and MBC3's select values where its cases meet. -/
theorem witness_CartridgeSelects :
    (within 0 0x3FFF [0x0000, 0x3EFF] && !(0x3EFF : Word).getLsbD 8 && !(0x0000 : Word).getLsbD 8) = true ∧
    (within 0 0x3FFF [0x0100, 0x3FFF] && (0x0100 : Word).getLsbD 8 && (0x3FFF : Word).getLsbD 8) = true ∧
    ([0x00, 0x03] : List Byte).all (fun v => decide (v.toNat ≤ 3)) = true ∧
    ([0x04, 0x07, 0x0D, 0xFF] : List Byte).all (fun v => decide (3 < v.toNat) && (decide (v.toNat < 8) || decide (12 < v.toNat))) = true ∧
    (0x08 : Byte).toNat = 8 ∧ (0x0C : Byte).toNat = 12 := by
  decide +kernel

/-- O49 and O54: canonical memories and legal parameters. -/
theorem witness_SaveAndTimer : ∃ s : State, s.memoryWf = true ∧ s.params.wf = true :=
  ⟨State.reset, reset_memoryWf, defaultParams_wf _⟩

/-- O50: the first and the last source. -/
theorem witness_InterruptDispatch : ∀ n ∈ [0, 4], ∃ s : State, s.engine.stopped = false ∧ s.engine.imeEnabling = false ∧
    s.engine.ime = true ∧ n < 5 ∧ s.ifByte.getLsbD n = true ∧ s.ieByte.getLsbD n = true ∧
    ∀ m < n, s.ifByte.getLsbD m = false ∨ s.ieByte.getLsbD m = false := by
  intro n hn
  simp only [List.mem_cons, List.not_mem_nil, or_false] at hn
  rcases hn with rfl | rfl
  · exact ⟨(start [] id [(0xFFFF, 0xFF), (0xFF0F, 0x05)]).mapEngine (fun g => { g with ime := true }), by decide +kernel⟩
  · exact ⟨(start [] id [(0xFFFF, 0x10), (0xFF0F, 0x1F)]).mapEngine (fun g => { g with ime := true }), by decide +kernel⟩

/-- O51: each of its five cases. -/
theorem witness_InterruptPhaseOtherwise :
    (∃ s : State, s.engine.stopped = true) ∧ (∃ s : State, s.engine.stopped = false ∧ s.engine.imeEnabling = true) ∧
    (∃ s : State, s.engine.stopped = false ∧ s.engine.imeEnabling = false ∧ s.engine.ime = false ∧ s.engine.halted = true ∧
      s.ifByte &&& s.ieByte &&& 0x1F ≠ 0) ∧
    (∃ s : State, s.engine.stopped = false ∧ s.engine.imeEnabling = false ∧ s.engine.ime = false ∧ s.engine.halted = false) ∧
    (∃ s : State, s.engine.stopped = false ∧ s.engine.imeEnabling = false ∧ s.engine.ime = true ∧
      s.ifByte &&& s.ieByte &&& 0x1F = 0) :=
  ⟨⟨State.reset.mapEngine (fun g => { g with stopped := true }), by decide +kernel⟩,
   ⟨State.reset.mapEngine (fun g => { g with imeEnabling := true }), by decide +kernel⟩,
   ⟨(start [] id [(0xFFFF, 0x10), (0xFF0F, 0x10)]).mapEngine (fun g => { g with halted := true }), by decide +kernel⟩,
   ⟨State.reset, by decide +kernel⟩, ⟨State.reset.mapEngine (fun g => { g with ime := true }), by decide +kernel⟩⟩

/-- O52: a step of EI and one of DI. -/
theorem witness_EiAndDiSteps : ∀ bi ∈ [((0xFB : Byte), Instr.ei), (0xF3, .di)], ∃ (s t : State) (rest : List Byte),
    s.engine.stopped = false ∧ s.engine.halted = false ∧ decode (s.fetchBytes 3) = .ok (bi.2, rest) ∧ step s = .next t := by
  intro bi hb
  simp only [List.mem_cons, List.not_mem_nil, or_false] at hb
  rcases hb with rfl | rfl
  · obtain ⟨t, h⟩ := stepNext (start [0xFB, 0x00, 0x00] id [])
    exact ⟨_, t, [0x00, 0x00], by decide +kernel, by decide +kernel, by decide +kernel, h⟩
  · obtain ⟨t, h⟩ := stepNext (start [0xF3, 0x00, 0x00] id [])
    exact ⟨_, t, [0x00, 0x00], by decide +kernel, by decide +kernel, by decide +kernel, h⟩

/-- O53: below the period, disabled, below the threshold, at it, and at it with TIMA at its top. -/
theorem witness_TimersCount :
    (∃ s : State, s.timer.divAcc < s.params.divPeriod) ∧ (∃ s : State, (s.ioByte 0x07).getLsbD 2 = false) ∧
    (∃ s : State, (s.ioByte 0x07).getLsbD 2 = true ∧ s.timer.timerAcc + 1 < s.timer.threshold.cycles) ∧
    (∃ s : State, (s.ioByte 0x07).getLsbD 2 = true ∧ s.timer.timerAcc + 1 = s.timer.threshold.cycles ∧ s.ioByte 0x05 ≠ 0xFF) ∧
    (∃ s : State, (s.ioByte 0x07).getLsbD 2 = true ∧ s.timer.timerAcc + 1 = s.timer.threshold.cycles ∧ s.ioByte 0x05 = 0xFF) :=
  ⟨⟨State.reset, by decide +kernel⟩, ⟨State.reset, by decide +kernel⟩, ⟨start [] id [(0xFF07, 0x05)], by decide +kernel⟩,
   ⟨{ start [] id [(0xFF07, 0x05)] with timer := { divAcc := 0, timerAcc := 15, threshold := .t16 } }, by decide +kernel⟩,
   ⟨{ start [] id [(0xFF07, 0x05), (0xFF05, 0xFF)] with timer := { divAcc := 0, timerAcc := 15, threshold := .t16 } },
    by decide +kernel⟩⟩

/-- A ROM whose header has these bytes at 0x143 and 0x147. -/
def headerRom (mode type : Byte) : List Byte := List.replicate 0x143 0 ++ [mode, 0, 0, 0, type, 0, 0]

/-- O55: canonical contents in color mode, and a launch of every controller. -/
theorem witness_LaunchState :
    (∃ L : LaunchInput, L.wf = true ∧ (State.launch L).color = true) ∧
    (∀ k ∈ [0x04, 0xFE], k ∉ [0x00, 0x05, 0x06, 0x07, 0x0F, 0x40, 0x41, 0x44, 0x46, 0xFF] ∧ k ≠ 0x55) ∧
    (∃ L r, (State.launch L).cart = .mbc1 r) ∧ (∃ L r, (State.launch L).cart = .mbc2 r) ∧
    (∃ L r, (State.launch L).cart = .mbc3 r) ∧ (∃ L r, (State.launch L).cart = .mbc5 r) :=
  ⟨⟨{ LaunchInput.empty with rom := headerRom 0x80 0x00 }, by decide +kernel, by decide +kernel⟩,
   by decide,
   ⟨{ LaunchInput.empty with rom := headerRom 0 0x03 }, { ramEnabled := false, bankLo := 0, bankHi := 0, mode := 0 },
    by decide +kernel⟩,
   ⟨{ LaunchInput.empty with rom := headerRom 0 0x06 }, { ramEnabled := false, romBank := 0 },
    by decide +kernel⟩,
   ⟨{ LaunchInput.empty with rom := headerRom 0 0x13 }, { ramEnabled := false, romBank := 0, ramSel := .ram 0, live := Rtc.zero, latched := Rtc.zero, latchArmed := false },
    by decide +kernel⟩,
   ⟨{ LaunchInput.empty with rom := headerRom 0 0x1E }, { ramEnabled := false, romBank := 1, ramBank := 0 },
    by decide +kernel⟩⟩

/-- A launch of an MBC1 cartridge of this type, its ROM the header alone, with 0x2000 bytes of external RAM and a save file of two bytes. -/
def savedLaunch (type : Byte) : LaunchInput :=
  { LaunchInput.empty with
    rom := (headerRom 0 type).set 0x149 0x02
    save := some [0x42, 0x00]
    initEram := [(0, 0x11), (1, 0x22), (2, 0x33)] }

/-- O55, ROM and external RAM: the ends of both ROM windows, and the first and the last byte of external RAM with a battery type, with
another type, and with no save file read. -/
theorem witness_LaunchState_arrays :
    within 0 0x7FFF [0x0000, 0x3FFF, 0x4000, 0x7FFF] = true ∧
    (∃ L blob, L.wf = true ∧ L.save = some blob ∧ (headerByte L.rom 0x147).toNat = 0x03 ∧ 0 < (State.launch L).eramSize ∧
      0x1FFF < (State.launch L).eramSize) ∧
    (∃ L blob, L.wf = true ∧ L.save = some blob ∧ (headerByte L.rom 0x147).toNat = 0x02 ∧ 0x1FFF < (State.launch L).eramSize) ∧
    (∃ L, L.wf = true ∧ L.save = none ∧ 0x1FFF < (State.launch L).eramSize) :=
  ⟨by decide +kernel,
   ⟨savedLaunch 0x03, _, by decide +kernel, rfl, by decide +kernel, by decide +kernel, by decide +kernel⟩,
   ⟨savedLaunch 0x02, _, by decide +kernel, rfl, by decide +kernel, by decide +kernel⟩,
   ⟨{ savedLaunch 0x03 with save := none }, by decide +kernel, rfl, by decide +kernel⟩⟩

/-- R111, R132: the save file's bytes over INIT_ERAM for MBC1 with RAM and a battery (type 0x03), INIT_ERAM alone for type 0x02. -/
theorem test_launch_save :
    ((List.range 3).map (fun i => (State.launch (savedLaunch 0x03)).eramByte i)) = [0x42, 0x00, 0x33] ∧
    ((List.range 3).map (fun i => (State.launch (savedLaunch 0x02)).eramByte i)) = [0x11, 0x22, 0x33] := by
  decide +kernel

/-- O57: a step, a launch and another host action from a legal state. -/
theorem witness_EventsKeepLegal :
    (∃ s t : State, s.legal = true ∧ runEvent s .step = .next t) ∧
    (∃ (s t : State) (L : LaunchInput), L.wf = true ∧ s.legal = true ∧ runEvent s (.host (.loadRom L)) = .next t) ∧
    (∃ s t : State, s.legal = true ∧ runEvent s (.host .requestVblank) = .next t) :=
  ⟨⟨State.reset, (stepNext State.reset).elim fun t h => ⟨t, by decide +kernel, h⟩⟩, ⟨State.reset, _, LaunchInput.empty, empty_wf, by decide +kernel, rfl⟩,
   ⟨State.reset, _, by decide +kernel, rfl⟩⟩

/-- O58. -/
theorem witness_LaunchIsLegal : LaunchInput.empty.wf = true := empty_wf

end Sys2Proof.Tests
end

section
/-! The launch state (R65 to R68): the part of the model's launch that `Laws/Step.lean` leaves open, and the statement itself. -/

namespace Sys2Proof.Machine

variable {L : LaunchInput} {m : Memory} {x : Variant} {k : Nat}

/-! ## The header's color mode and the CPU -/

/-- Color mode by its header byte (R3). -/
theorem headerColor_iff (rom : List Byte) :
    headerColor rom = true ↔ headerByte rom 0x143 = 0x80 ∨ headerByte rom 0x143 = 0xC0 := by
  unfold headerColor
  rw [Bool.or_eq_true, beq_iff_eq, beq_iff_eq]

/-- The CPU registers at launch, by the header byte that selects the mode (R3, R65). -/
theorem launch_cpu (L : LaunchInput) :
    (State.launch L).cpu = (if headerByte L.rom 0x143 = 0x80 ∨ headerByte L.rom 0x143 = 0xC0 then
        { a := 0x11, f := 0x80, b := 0x00, c := 0x00, d := 0xFF, e := 0x56, h := 0x00, l := 0x0D, sp := 0xFFFE, pc := 0x0100 }
      else { a := 0x01, f := 0xB0, b := 0x00, c := 0x13, d := 0x00, e := 0xD8, h := 0x01, l := 0x4D, sp := 0xFFFE, pc := 0x0100 }) := by
  simp only [← headerColor_iff]
  rfl

/-! ## The controller's registers (R68) -/

theorem eq_of_load_eq_mbc1 {r : Mbc1} (h : Cart.load x = .mbc1 r) :
    r = { ramEnabled := false, bankLo := 0, bankHi := 0, mode := 0 } := by
  cases x <;> cases h
  rfl

theorem eq_of_load_eq_mbc2 {r : Mbc2} (h : Cart.load x = .mbc2 r) : r = { ramEnabled := false, romBank := 0 } := by
  cases x <;> cases h
  rfl

theorem eq_of_load_eq_mbc3 {r : Mbc3} (h : Cart.load x = .mbc3 r) :
    r = { ramEnabled := false, romBank := 0, ramSel := .ram 0, live := Rtc.zero, latched := Rtc.zero, latchArmed := false } := by
  cases x <;> cases h
  rfl

theorem eq_of_load_eq_mbc5 {r : Mbc5} (h : Cart.load x = .mbc5 r) : r = { ramEnabled := false, romBank := 1, ramBank := 0 } := by
  cases x <;> cases h
  rfl

/-- At launch every clock register is 0. -/
theorem Rtc.get_zero (i : RtcReg) : Rtc.zero.get i = 0 := by cases i <;> rfl

/-! ## The I/O file (R67) -/

/-- Storing cells leaves every offset alone that none of them names, whatever the list. -/
theorem Memory.get_setCells_ne {fill : Byte} {cells : List Host.Cell} (h : ∀ c ∈ cells, k ≠ c.1) :
    Memory.get fill (Memory.setCells fill m cells) k = Memory.get fill m k := by
  induction cells generalizing m with
  | nil => rfl
  | cons c cells ih =>
    rw [Memory.setCells_cons, ih fun d hd => h d (List.mem_cons_of_mem _ hd), Memory.get_set_ne (h c List.mem_cons_self)]

/-- The offsets that the launch writes: the ten of R67, and HDMA5 in color mode alone. -/
theorem mem_launchIo_offset {c : Bool} {kv : Host.Cell} (h : kv ∈ launchIo c) :
    kv.1 ∈ [0x00, 0x05, 0x06, 0x07, 0x0F, 0x40, 0x41, 0x44, 0x46, 0xFF] ∨ c = true ∧ kv.1 = 0x55 := by
  rcases List.mem_append.mp h with h | h
  · exact .inl (List.mem_map_of_mem (f := Prod.fst) h)
  · cases c with
    | false => exact absurd h List.not_mem_nil
    | true => exact .inr ⟨rfl, congrArg Prod.fst (List.mem_singleton.mp h)⟩

/-- Every I/O byte that R67 does not name is INIT_RAM's. -/
theorem ioByte_launch_init (hk : k ∉ [0x00, 0x05, 0x06, 0x07, 0x0F, 0x40, 0x41, 0x44, 0x46, 0xFF])
    (hc : k ≠ 0x55 ∨ (State.launch L).color = false) : (State.launch L).ioByte k = L.initIo.get ramFill k := by
  refine Memory.get_setCells_ne fun kv hkv hkeq => ?_
  subst hkeq
  rcases mem_launchIo_offset hkv with hnamed | ⟨hcolor, h55⟩
  · exact hk hnamed
  · exact hc.elim (· h55) fun hmono => Bool.noConfusion (hcolor.symm.trans hmono)

/-- Every I/O byte that R67 names has its launch value, from canonical launch contents. -/
theorem ioByte_launch_named (h : L.wf = true) :
    ∀ kv ∈ launchIo (headerColor L.rom), (State.launch L).ioByte kv.1 = kv.2 := by
  simp only [LaunchInput.wf, Bool.and_eq_true] at h
  exact get_launchIo _ _ h.1.1.2

/-! ## The color-mode ports -/

variable {s : State}

theorem ioRead_key1 (h : ioPort s.color k = .key1) :
    s.ioRead k = (if s.speed.doubleSpeed then 0x80 else 0x00) ||| 0x7E ||| (if s.speed.armed then 0x01 else 0x00) := by
  unfold State.ioRead; rw [h]

theorem ioRead_vbk (h : ioPort s.color k = .vbk) : s.ioRead k = 0xFE ||| s.vramBank.zeroExtend 8 := by
  unfold State.ioRead; rw [h]

theorem ioRead_svbk (h : ioPort s.color k = .svbk) : s.ioRead k = 0xF8 ||| s.wramBank.zeroExtend 8 := by
  unfold State.ioRead; rw [h]

@[simp] theorem launch_speed : (State.launch L).speed = Speed.launch := rfl
@[simp] theorem launch_vramBank : (State.launch L).vramBank = 0 := rfl
@[simp] theorem launch_wramBank : (State.launch L).wramBank = 1 := rfl

/-- In color mode KEY1, VBK and SVBK read their values of R67, from the speed and bank state of R66. -/
theorem busRead_launch_color (h : (State.launch L).color = true) :
    (State.launch L).busRead 0xFF4D = 0x7E ∧ (State.launch L).busRead 0xFF4F = 0xFE ∧ (State.launch L).busRead 0xFF70 = 0xF9 := by
  refine ⟨?_, ?_, ?_⟩
  · rw [busRead_port (a := 0xFF4D) (k := 0x4D) (by decide) rfl, ioRead_key1 (by rw [h]; rfl), launch_speed]
    decide
  · rw [busRead_port (a := 0xFF4F) (k := 0x4F) (by decide) rfl, ioRead_vbk (by rw [h]; rfl), launch_vramBank]
    decide
  · rw [busRead_port (a := 0xFF70) (k := 0x70) (by decide) rfl, ioRead_svbk (by rw [h]; rfl), launch_wramBank]
    decide

end Sys2Proof.Machine

namespace Sys2Proof.Proofs

open Sys2Proof Sys2Proof.Machine

/-- Settles O55: the registers by definition of the launch, the I/O file by the cells that the launch stores over INIT_RAM, and the ROM
windows and external RAM by the laws of their arrays. -/
theorem launchState : Obligations.LaunchState := by
  unfold Obligations.LaunchState
  intro L
  refine ⟨launch_cpu L, rfl, rfl, rfl, rfl, rfl, rfl, rfl, rfl, rfl, rfl, rfl, fun r hr => ?mbc1, fun r hr => ?mbc2,
    fun r hr => ?mbc3, fun r hr => ?mbc5, rfl, rfl, rfl, fun k => ioByte_launch_init, fun a => busRead_launch_rom L,
    fun hwf i hi => ?eram, fun hwf => ⟨fun kv hkv => ?named, fun hcolor => ?color⟩⟩
  case mbc1 =>
    obtain rfl := eq_of_load_eq_mbc1 hr
    exact ⟨rfl, rfl, rfl, rfl⟩
  case mbc2 =>
    obtain rfl := eq_of_load_eq_mbc2 hr
    exact ⟨rfl, rfl⟩
  case mbc3 =>
    obtain rfl := eq_of_load_eq_mbc3 hr
    exact ⟨rfl, rfl, rfl, rfl, fun i => ⟨Rtc.get_zero i, Rtc.get_zero i⟩⟩
  case mbc5 =>
    obtain rfl := eq_of_load_eq_mbc5 hr
    exact ⟨rfl, rfl, rfl⟩
  case eram =>
    simp only [← batteryType_iff]
    exact get_launchEram L hwf hi
  case named => exact ioByte_launch_named hwf kv (List.mem_append_left _ hkv)
  case color =>
    obtain ⟨hkey1, hvbk, hsvbk⟩ := busRead_launch_color hcolor
    have hmem : (0x55, 0xFF) ∈ launchIo (headerColor L.rom) :=
      List.mem_append_right _ (by rw [show headerColor L.rom = true from hcolor]; exact List.mem_singleton_self _)
    exact ⟨hkey1, hvbk, hsvbk, ioByte_launch_named hwf _ hmem⟩

end Sys2Proof.Proofs
end

section
/-! What a write of the echo region, the unusable region and each I/O port does (R77, R79, R90 to R107), and the statements about them. -/

namespace Sys2Proof.Machine

variable {s : State} {a : Word} {v : Byte} {k n : Nat}

/-! ## The echo and unusable regions -/

theorem busWrite_echo_stub (h : 0xE000 ≤ a.toNat) (h' : a.toNat ≤ 0xFDFF) (he : s.params.echoMode = .stub) : s.busWrite a v = s := by
  unfold State.busWrite; dsimp only
  rw [if_neg (by omega), if_neg (by omega), if_neg (by omega), if_neg (by omega), if_pos h', he]

theorem busWrite_echo_mirror (h : 0xE000 ≤ a.toNat) (h' : a.toNat ≤ 0xFDFF) (he : s.params.echoMode = .mirror) :
    s.busWrite a v = { s with wram := s.wram.set ramFill (s.wramIndex (a.toNat - 0x2000)) v } := by
  unfold State.busWrite; dsimp only
  rw [if_neg (by omega), if_neg (by omega), if_neg (by omega), if_neg (by omega), if_pos h', he]

theorem busWrite_unusable (h : 0xFEA0 ≤ a.toNat) (h' : a.toNat ≤ 0xFEFF) : s.busWrite a v = s := by
  unfold State.busWrite; dsimp only
  rw [if_neg (by omega), if_neg (by omega), if_neg (by omega), if_neg (by omega), if_neg (by omega), if_neg (by omega), if_pos h']

/-- The address that an echo address mirrors. -/
theorem toNat_sub_echo (h : 0xE000 ≤ a.toNat) : (a - 0x2000).toNat = a.toNat - 0x2000 :=
  BitVec.toNat_sub_of_le (BitVec.le_def.mpr (Nat.le_trans (by decide) h))

/-! ## The write of each port -/

theorem ioWrite_joyp (h : ioPort s.color k = .joyp) : s.ioWrite k v = s.setIo k ((s.ioByte k &&& 0xCF) ||| (v &&& 0x30)) := by
  unfold State.ioWrite; rw [h]

theorem ioWrite_div (h : ioPort s.color k = .div) : s.ioWrite k v = s.writeDiv := by
  unfold State.ioWrite; rw [h]

theorem ioWrite_tac (h : ioPort s.color k = .tac) : s.ioWrite k v = s.writeTac v := by
  unfold State.ioWrite; rw [h]

theorem ioWrite_stat (h : ioPort s.color k = .stat) : s.ioWrite k v = s.setIo k (v ||| 0x80) := by
  unfold State.ioWrite; rw [h]

theorem ioWrite_ly (h : ioPort s.color k = .ly) : s.ioWrite k v = s.setIo k 0 := by
  unfold State.ioWrite; rw [h]

theorem ioWrite_intFlag (h : ioPort s.color k = .intFlag) : s.ioWrite k v = s.setIo k v := by
  unfold State.ioWrite; rw [h]

theorem ioWrite_sound (h : ioPort s.color k = .sound) : s.ioWrite k v = s.setIo k v := by
  unfold State.ioWrite; rw [h]

theorem ioWrite_key1 (h : ioPort s.color k = .key1) :
    s.ioWrite k v = { s with speed := { s.speed with armed := v.getLsbD 0 } } := by
  unfold State.ioWrite; rw [h]

theorem ioWrite_vbk (h : ioPort s.color k = .vbk) : s.ioWrite k v = { s with vramBank := v.extractLsb' 0 1 } := by
  unfold State.ioWrite; rw [h]

theorem ioWrite_svbk (h : ioPort s.color k = .svbk) : s.ioWrite k v = { s with wramBank := svbkBank v } := by
  unfold State.ioWrite; rw [h]

theorem ioWrite_palette (h : ioPort s.color k = .palette) :
    s.ioWrite k v = { s.setIo k v with paletteOut := s.paletteOut ++ [(k, v)] } := by
  unfold State.ioWrite; rw [h]

/-! ## The port at an offset -/

theorem ioPort_sound (c : Bool) (h : 0x10 ≤ k) (h' : k ≤ 0x3F) : ioPort c k = .sound := by
  unfold ioPort
  rw [if_neg (by omega), if_neg (by omega), if_neg (by omega), if_neg (by omega), if_pos ⟨h, h'⟩]

theorem ioPort_palette (h : 0x68 ≤ k) (h' : k ≤ 0x6B) : ioPort true k = .palette := by
  unfold ioPort
  rw [if_neg (by omega), if_neg (by omega), if_neg (by omega), if_neg (by omega), if_neg (by omega), if_neg (by omega),
    if_neg (by omega), if_neg (by omega), if_pos rfl, if_neg (by omega), if_neg (by omega), if_neg (by omega), if_pos ⟨h, h'⟩]

/-- IE is plain storage in both modes (R94). -/
theorem ioPort_ie (c : Bool) : ioPort c 0xFF = .plain := by cases c <;> rfl

/-! ## The values that TAC and SVBK select -/

/-- The threshold by the low two bits of TAC, as a number (R93, R413). -/
theorem thresholdOf_eq (v : Byte) : thresholdOf v =
    if v.toNat % 4 = 0 then .t1024 else if v.toNat % 4 = 1 then .t16 else if v.toNat % 4 = 2 then .t64 else .t256 := by
  have hlow : (v.extractLsb' 0 2).toNat = v.toNat % 4 := by rw [BitVec.extractLsb'_toNat, Nat.shiftRight_zero]
  unfold thresholdOf
  simp only [← BitVec.toNat_inj, hlow]
  rfl

/-- A TAC write restarts the selectable timer's phase exactly when the threshold changes (R93). -/
theorem writeTac_eq : s.writeTac v = { s.setIo 0x07 v with
    timer := { s.timer with
      threshold := thresholdOf v
      timerAcc := if thresholdOf v = s.timer.threshold then s.timer.timerAcc else 0 } } := by
  unfold State.writeTac
  dsimp only
  split
  · next h => rw [h]
  · rfl

/-- The bank that SVBK selects, as a number (R100). -/
theorem toNat_svbkBank (v : Byte) : (svbkBank v).toNat = if v.toNat % 8 = 0 then 1 else v.toNat % 8 := by
  have hlow : (v.extractLsb' 0 3).toNat = v.toNat % 8 := by rw [BitVec.extractLsb'_toNat, Nat.shiftRight_zero]
  unfold svbkBank
  simp only [← BitVec.toNat_inj, hlow, apply_ite BitVec.toNat]
  rfl

/-! ## IF and IE beyond their five sources (R94) -/

theorem IntSource.bit_lt (x : IntSource) : x.bit < 5 := by cases x <;> decide

/-- Masking a byte to the five sources leaves their bits. -/
theorem getLsbD_and_1F (v : Byte) (h : n < 5) : (v &&& 0x1F).getLsbD n = v.getLsbD n := by
  have hmask : ∀ n < 5, (0x1F : Byte).getLsbD n = true := by decide
  rw [BitVec.getLsbD_and, hmask n h, Bool.and_true]

/-- The source to service depends on the five low bits of IF and IE alone. -/
theorem pendingSource_congr {t : State} (hif : ∀ n < 5, s.ifByte.getLsbD n = t.ifByte.getLsbD n)
    (hie : ∀ n < 5, s.ieByte.getLsbD n = t.ieByte.getLsbD n) : s.pendingSource = t.pendingSource := by
  unfold State.pendingSource
  congr 1
  funext x
  rw [hif _ x.bit_lt, hie _ x.bit_lt]

/-- Two bytes that agree at bit `n`, stored at one offset, leave every I/O byte the same at bit `n`. -/
theorem getLsbD_ioByte_setIo {w : Byte} {j : Nat} (hm : Memory.wf ramFill 0x100 s.io = true) (h : v.getLsbD n = w.getLsbD n) :
    ((s.setIo k v).ioByte j).getLsbD n = ((s.setIo k w).ioByte j).getLsbD n := by
  by_cases hj : j = k
  · subst hj; rw [ioByte_setIo_same hm, ioByte_setIo_same hm, h]
  · rw [ioByte_setIo_ne hj, ioByte_setIo_ne hj]

/-- What the interrupt phase does to the CPU and the engine, and what it charges, is the same after a byte is stored in the I/O file and
after its five low bits alone are. -/
theorem interruptPhase_setIo_and_1F (hm : Memory.wf ramFill 0x100 s.io = true) :
    (s.setIo k v).interruptPhase.1.cpu = (s.setIo k (v &&& 0x1F)).interruptPhase.1.cpu ∧
    (s.setIo k v).interruptPhase.1.engine = (s.setIo k (v &&& 0x1F)).interruptPhase.1.engine ∧
    (s.setIo k v).interruptPhase.2 = (s.setIo k (v &&& 0x1F)).interruptPhase.2 := by
  have hbit : ∀ j, ∀ n < 5, ((s.setIo k v).ioByte j).getLsbD n = ((s.setIo k (v &&& 0x1F)).ioByte j).getLsbD n :=
    fun j n hn => getLsbD_ioByte_setIo hm (getLsbD_and_1F v hn).symm
  exact interruptPhase_congr rfl rfl rfl (pendingSource_congr (hbit 0x0F) (hbit 0xFF)) (hbit 0x0F 4 (by decide))

/-- A canonical state's I/O file is canonical. -/
theorem io_wf_of_memoryWf (h : s.memoryWf = true) : Memory.wf ramFill 0x100 s.io = true := by
  unfold State.memoryWf at h
  simp only [Bool.and_eq_true] at h
  exact h.1.1.2

/-! ## The writes of IF and IE, by address -/

theorem busWrite_if : s.busWrite 0xFF0F v = s.setIo 0x0F v :=
  (busWrite_port (k := 0x0F) (by decide) rfl).trans (ioWrite_intFlag rfl)

theorem busWrite_ie : s.busWrite 0xFFFF v = s.setIo 0xFF v :=
  (busWrite_port (k := 0xFF) (by decide) rfl).trans (ioWrite_plain (ioPort_ie s.color))

end Sys2Proof.Machine

namespace Sys2Proof.Proofs

open Sys2Proof Sys2Proof.Machine

/-- Settles O37, by the bus's law of each region. -/
theorem echoAndUnusable : Obligations.EchoAndUnusable := by
  unfold Obligations.EchoAndUnusable
  intro s a v
  refine ⟨fun h h' he => ⟨busRead_echo_stub h h' he, busWrite_echo_stub h h' he⟩, fun h h' he => ?mirror,
    fun h h' => ⟨busRead_unusable h h', busWrite_unusable h h'⟩⟩
  case mirror =>
    have hsub := toNat_sub_echo h
    rw [busRead_echo_mirror h h' he, busWrite_echo_mirror h h' he, busRead_wram (a := a - 0x2000) (by omega) (by omega),
      busWrite_wram (a := a - 0x2000) (by omega) (by omega), hsub]
    exact ⟨rfl, rfl⟩

/-- Settles O39: each port's write by the port at its offset; the interrupt phase reads five bits of IF and of IE alone. -/
theorem portWrites : Obligations.PortWrites := by
  unfold Obligations.PortWrites
  intro s v
  refine ⟨(busWrite_port (k := 0x00) (by decide) rfl).trans (ioWrite_joyp rfl),
    (busWrite_port (k := 0x04) (by decide) rfl).trans (ioWrite_div rfl), ⟨thresholdOf v, ?cycles, ?tac⟩,
    (busWrite_port (k := 0x41) (by decide) rfl).trans (ioWrite_stat rfl),
    (busWrite_port (k := 0x44) (by decide) rfl).trans (ioWrite_ly rfl), busWrite_if, busWrite_ie, fun a ha hm => ?phase,
    fun k h h' => (busWrite_port (by omega) rfl).trans (ioWrite_sound (ioPort_sound s.color h h'))⟩
  case cycles =>
    have hlow : v.toNat % 4 = 0 ∨ v.toNat % 4 = 1 ∨ v.toNat % 4 = 2 ∨ v.toNat % 4 = 3 := by omega
    rcases hlow with h | h | h | h <;> rw [thresholdOf_eq, h] <;> rfl
  case tac => exact ((busWrite_port (k := 0x07) (by decide) rfl).trans (ioWrite_tac rfl)).trans writeTac_eq
  case phase =>
    have hio := io_wf_of_memoryWf hm
    rcases ha with rfl | rfl
    · simp only [busWrite_if]; exact interruptPhase_setIo_and_1F hio
    · simp only [busWrite_ie]; exact interruptPhase_setIo_and_1F hio

/-- Settles O40: each port's write by the port at its offset, which in monochrome mode is plain for every one of them. -/
theorem colorPortWrites : Obligations.ColorPortWrites := by
  unfold Obligations.ColorPortWrites
  intro s v
  refine ⟨fun hc => ⟨?key1, ?vbk, ⟨svbkBank v, ?svbk, toNat_svbkBank v⟩, fun k h h' => ?palette⟩, fun hc k hk => ?mono⟩
  case key1 => exact (busWrite_port (k := 0x4D) (by decide) rfl).trans (ioWrite_key1 (by rw [hc]; rfl))
  case vbk => exact (busWrite_port (k := 0x4F) (by decide) rfl).trans (ioWrite_vbk (by rw [hc]; rfl))
  case svbk => exact (busWrite_port (k := 0x70) (by decide) rfl).trans (ioWrite_svbk (by rw [hc]; rfl))
  case palette => exact (busWrite_port (by omega) rfl).trans (ioWrite_palette (by rw [hc]; exact ioPort_palette h h'))
  case mono =>
    have hplain : ∀ k ∈ [0x4D, 0x4F, 0x51, 0x52, 0x53, 0x54, 0x55, 0x68, 0x69, 0x6A, 0x6B, 0x70],
        k < 0x100 ∧ ioPort false k = .plain := by decide
    obtain ⟨hlt, hport⟩ := hplain k hk
    rw [← hc] at hport
    exact ⟨(busWrite_port hlt rfl).trans (ioWrite_plain hport), (busRead_port hlt rfl).trans (ioRead_plain hport)⟩

end Sys2Proof.Proofs
end

section
/-! What the two ROM windows and the external-RAM window do under each controller (R113 to R115, R122 to R131), and the statements about
PlainROM, MBC2, MBC3 and MBC5. -/

namespace Sys2Proof.Machine

variable {s : State} {a : Word} {v : Byte} {c : Cart} {n o : Nat}

/-! ## The ROM windows -/

theorem busRead_rom_low (h : a.toNat ≤ 0x3FFF) : s.busRead a = s.romByte a.toNat := by
  rw [busRead_rom (by omega), Cart.romIndex, if_pos h]

theorem busRead_rom_high (h : 0x4000 ≤ a.toNat) (h' : a.toNat ≤ 0x7FFF) :
    s.busRead a = s.romByte (s.cart.romBank * 0x4000 + (a.toNat - 0x4000)) := by
  rw [busRead_rom h', Cart.romIndex, if_neg (by omega)]

/-- A write to the ROM windows by what the controller makes of it. -/
theorem busWrite_rom_of_writeRom {c' : Cart} (h : a.toNat ≤ 0x7FFF) (hc : s.cart = c) (hw : c.writeRom a.toNat v = c') :
    s.busWrite a v = { s with cart := c' } := by
  rw [busWrite_rom h, hc, hw]

/-- A write to the ROM windows that the controller ignores changes nothing. -/
theorem busWrite_rom_ignored (h : a.toNat ≤ 0x7FFF) (hc : s.cart = c) (hw : c.writeRom a.toNat v = c) : s.busWrite a v = s := by
  rw [busWrite_rom_of_writeRom h hc hw, ← hc]

/-! ## The values that a control write takes -/

/-- The enable pattern: the low nibble is 10 (R116). -/
theorem enablePattern_eq (v : Byte) : enablePattern v = decide (v.toNat % 16 = 10) := by
  have hlow : (v &&& 0x0F).toNat = v.toNat % 16 := by
    rw [BitVec.toNat_and]; exact Nat.and_two_pow_sub_one_eq_mod v.toNat 4
  rw [Bool.eq_iff_iff, decide_eq_true_eq, enablePattern, beq_iff_eq, ← BitVec.toNat_inj, hlow]
  rfl

theorem ramSelOf_ram (h : v.toNat ≤ 3) : ramSelOf v = some (.ram (v.extractLsb' 0 2)) := by
  rw [ramSelOf, if_pos h]

theorem ramSelOf_clock : ∀ k ∈ [(8, RtcReg.seconds), (9, .minutes), (10, .hours), (11, .dayLow), (12, .dayHigh)], v.toNat = k.1 →
    ramSelOf v = some (.clock k.2) := by
  have htable : ∀ k ∈ [(8, RtcReg.seconds), (9, .minutes), (10, .hours), (11, .dayLow), (12, .dayHigh)],
      ramSelOf (BitVec.ofNat 8 k.1) = some (.clock k.2) := by decide
  intro k hk hv
  rw [← htable k hk, ← hv, BitVec.ofNat_toNat, BitVec.setWidth_eq]

theorem ramSelOf_ignored (h : 3 < v.toNat) (h' : v.toNat < 8 ∨ 12 < v.toNat) : ramSelOf v = none := by
  have hne : ∀ k : Byte, 8 ≤ k.toNat → k.toNat ≤ 12 → v ≠ k := by
    rintro k hk hk' rfl
    omega
  rw [ramSelOf, if_neg (by omega), if_neg (hne _ (by decide) (by decide)), if_neg (hne _ (by decide) (by decide)),
    if_neg (hne _ (by decide) (by decide)), if_neg (hne _ (by decide) (by decide)), if_neg (hne _ (by decide) (by decide))]

/-- Bit 8 of an address as the controller tests it. -/
theorem div_256_mod_2 (a : Word) : a.toNat / 256 % 2 = (a.getLsbD 8).toNat := (Nat.toNat_testBit a.toNat 8).symm

/-! ## PlainROM -/

theorem cartReadRam_plainRom (hc : s.cart = .plainRom) : s.cartReadRam o = s.eramByte o := by
  rw [State.cartReadRam, hc]

theorem cartWriteRam_plainRom (hc : s.cart = .plainRom) : s.cartWriteRam o v = s.eramWrite o v := by
  rw [State.cartWriteRam, hc]

/-! ## MBC2 -/

section
variable {r : Mbc2}

theorem Mbc2.write_latch (h : a.toNat ≤ 0x3FFF) (h8 : a.getLsbD 8 = false) :
    r.write a.toNat v = { r with ramEnabled := decide (v.toNat % 16 = 10) } := by
  rw [Mbc2.write, if_pos h, div_256_mod_2, h8, if_pos Bool.toNat_false, enablePattern_eq]

theorem Mbc2.write_bank (h : a.toNat ≤ 0x3FFF) (h8 : a.getLsbD 8 = true) :
    r.write a.toNat v = { r with romBank := v.extractLsb' 0 4 } := by
  rw [Mbc2.write, if_pos h, div_256_mod_2, h8, if_neg (by decide)]

theorem Mbc2.write_ignored (h : 0x4000 ≤ n) : r.write n v = r := by
  rw [Mbc2.write, if_neg (by omega)]

theorem cartRam_mbc2_off (hc : s.cart = .mbc2 r) (hoff : r.ramEnabled = false) :
    s.cartReadRam o = 0xFF ∧ s.cartWriteRam o v = s := by
  rw [State.cartReadRam, State.cartWriteRam, hc]
  simp only [hoff, Bool.false_eq_true, if_false, and_self]

/-- The cells repeat through the window and hold four bits (R123). -/
theorem cartRam_mbc2_on (hc : s.cart = .mbc2 r) (hon : r.ramEnabled = true) :
    s.cartReadRam o = 0xF0 ||| (s.eramByte (o % 0x200) &&& 0x0F) ∧ s.cartWriteRam o v = s.eramWrite (o % 0x200) (v &&& 0x0F) := by
  rw [State.cartReadRam, State.cartWriteRam, hc]
  simp only [hon, if_true, and_self]

end

/-! ## MBC3 -/

section
variable {r : Mbc3}

theorem Mbc3.write_latch (h : n ≤ 0x1FFF) : r.write n v = { r with ramEnabled := decide (v.toNat % 16 = 10) } := by
  rw [Mbc3.write, if_pos h, enablePattern_eq]

theorem Mbc3.write_bank (h : 0x2000 ≤ n) (h' : n ≤ 0x3FFF) : r.write n v = { r with romBank := v.extractLsb' 0 7 } := by
  rw [Mbc3.write, if_neg (by omega), if_pos h']

theorem Mbc3.write_select (h : 0x4000 ≤ n) (h' : n ≤ 0x5FFF) : r.write n v = { r with ramSel := (ramSelOf v).getD r.ramSel } := by
  rw [Mbc3.write, if_neg (by omega), if_neg (by omega), if_pos h']

/-- The latch of the clock: the copy on 0x01 after 0x00 (R127). -/
theorem Mbc3.write_clockLatch (h : 0x6000 ≤ n) : r.write n v = { r with
    latched := if r.latchArmed = true ∧ v = 1 then r.live else r.latched, latchArmed := decide (v = 0) } := by
  rw [Mbc3.write, if_neg (by omega), if_neg (by omega), if_neg (by omega)]
  simp only [Bool.and_eq_true, beq_iff_eq]
  rfl

theorem cartRam_mbc3_off (hc : s.cart = .mbc3 r) (hoff : r.ramEnabled = false) :
    s.cartReadRam o = 0xFF ∧ s.cartWriteRam o v = s := by
  rw [State.cartReadRam, State.cartWriteRam, hc]
  simp only [hoff, Bool.false_eq_true, if_false, and_self]

theorem cartRam_mbc3_bank {b : BitVec 2} (hc : s.cart = .mbc3 r) (hon : r.ramEnabled = true) (hsel : r.ramSel = .ram b) :
    s.cartReadRam o = s.eramByte (b.toNat * 0x2000 + o) ∧ s.cartWriteRam o v = s.eramWrite (b.toNat * 0x2000 + o) v := by
  rw [State.cartReadRam, State.cartWriteRam, hc]
  simp only [hon, hsel, if_true, and_self]

/-- A clock register is read from the latched copy and written in the live one (R128, R129). -/
theorem cartRam_mbc3_clock {k : RtcReg} (hc : s.cart = .mbc3 r) (hon : r.ramEnabled = true) (hsel : r.ramSel = .clock k) :
    s.cartReadRam o = r.latched.get k ∧ s.cartWriteRam o v = { s with cart := .mbc3 { r with live := r.live.set k v } } := by
  rw [State.cartReadRam, State.cartWriteRam, hc]
  simp only [hon, hsel, if_true, and_self]

end

/-- A clock register after a write of one. -/
theorem Rtc.get_set (t : Rtc) (j k : RtcReg) (v : Byte) : (t.set k v).get j = if j = k then v else t.get j := by
  cases k <;> cases j <;> rfl

/-! ## MBC5 -/

/-- The bank register with its low eight bits written (R130). -/
def Mbc5.bankWithLow (b : BitVec 9) (v : Byte) : BitVec 9 := (b &&& 0x100) ||| v.zeroExtend 9

/-- The bank register with its top bit written (R130). -/
def Mbc5.bankWithHigh (b : BitVec 9) (v : Byte) : BitVec 9 := (b &&& 0x0FF#9) ||| ((v &&& 0x01).zeroExtend 9 <<< 8)

section
variable {r : Mbc5}

theorem Mbc5.write_latch (h : n ≤ 0x1FFF) : r.write n v = { r with ramEnabled := decide (v.toNat % 16 = 10) } := by
  rw [Mbc5.write, if_pos h, enablePattern_eq]

theorem Mbc5.write_bankLow (h : 0x2000 ≤ n) (h' : n ≤ 0x2FFF) : r.write n v = { r with romBank := Mbc5.bankWithLow r.romBank v } := by
  rw [Mbc5.write, if_neg (by omega), if_pos h', Mbc5.bankWithLow]

theorem Mbc5.write_bankHigh (h : 0x3000 ≤ n) (h' : n ≤ 0x3FFF) :
    r.write n v = { r with romBank := Mbc5.bankWithHigh r.romBank v } := by
  rw [Mbc5.write, if_neg (by omega), if_neg (by omega), if_pos h', Mbc5.bankWithHigh]
  rfl

theorem Mbc5.write_ramBank (h : 0x4000 ≤ n) (h' : n ≤ 0x5FFF) : r.write n v = { r with ramBank := v.extractLsb' 0 4 } := by
  rw [Mbc5.write, if_neg (by omega), if_neg (by omega), if_neg (by omega), if_pos h']

theorem Mbc5.write_ignored (h : 0x6000 ≤ n) : r.write n v = r := by
  rw [Mbc5.write, if_neg (by omega), if_neg (by omega), if_neg (by omega), if_neg (by omega)]

theorem cartRam_mbc5_off (hc : s.cart = .mbc5 r) (hoff : r.ramEnabled = false) :
    s.cartReadRam o = 0xFF ∧ s.cartWriteRam o v = s := by
  rw [State.cartReadRam, State.cartWriteRam, hc]
  simp only [hoff, Bool.false_eq_true, if_false, and_self]

theorem cartRam_mbc5_on (hc : s.cart = .mbc5 r) (hon : r.ramEnabled = true) :
    s.cartReadRam o = s.eramByte (r.ramBank.toNat * 0x2000 + o) ∧
    s.cartWriteRam o v = s.eramWrite (r.ramBank.toNat * 0x2000 + o) v := by
  rw [State.cartReadRam, State.cartWriteRam, hc]
  simp only [hon, if_true, and_self]

end

/-- A top bit and eight low bits side by side, as a number. -/
theorem shiftLeft_8_or (x : Nat) {y : Nat} (h : y < 256) : x <<< 8 ||| y = x * 256 + y := by
  rw [← Nat.shiftLeft_add_eq_or_of_lt h, Nat.shiftLeft_eq]

theorem Mbc5.toNat_bankWithLow (b : BitVec 9) (v : Byte) : (bankWithLow b v).toNat = b.toNat / 256 * 256 + v.toNat := by
  have hb := b.isLt
  have hv := v.isLt
  have htop : b.toNat &&& 0x100 = (b.toNat / 256) <<< 8 := by
    rw [show 0x100 = 2 ^ 8 from rfl, Nat.and_two_pow, Nat.toNat_testBit, Nat.shiftLeft_eq, Nat.mod_eq_of_lt (by omega)]
  rw [bankWithLow, BitVec.toNat_or, BitVec.toNat_and, BitVec.zeroExtend, BitVec.toNat_setWidth, Nat.mod_eq_of_lt (by omega),
    show (0x100 : BitVec 9).toNat = 0x100 from rfl, htop, shiftLeft_8_or _ hv]

theorem Mbc5.toNat_bankWithHigh (b : BitVec 9) (v : Byte) : (bankWithHigh b v).toNat = v.toNat % 2 * 256 + b.toNat % 256 := by
  have hlow : b.toNat &&& 0xFF = b.toNat % 256 := Nat.and_two_pow_sub_one_eq_mod b.toNat 8
  have htop : ((v &&& 0x01).zeroExtend 9 <<< 8 : BitVec 9).toNat = (v.toNat % 2) <<< 8 := by
    have hbit : (v &&& 0x01).toNat = v.toNat % 2 := by rw [BitVec.toNat_and]; exact Nat.and_one_is_mod v.toNat
    rw [BitVec.toNat_shiftLeft, BitVec.zeroExtend, BitVec.toNat_setWidth, hbit, Nat.mod_eq_of_lt (a := v.toNat % 2) (by omega),
      Nat.mod_eq_of_lt (by rw [Nat.shiftLeft_eq]; omega)]
  rw [bankWithHigh, BitVec.toNat_or, BitVec.toNat_and, htop, show (0x0FF#9).toNat = 0xFF from rfl, hlow, Nat.lor_comm,
    shiftLeft_8_or _ (by omega)]

end Sys2Proof.Machine

namespace Sys2Proof.Proofs

open Sys2Proof Sys2Proof.Machine

/-- Settles O44: PlainROM shows bank 1 above bank 0, so the windows read the array at the address itself. -/
theorem plainRom : Obligations.PlainRom := by
  unfold Obligations.PlainRom
  intro s a v hc
  refine ⟨fun h => ⟨?romRead, busWrite_rom_ignored h hc rfl⟩, fun h h' => ⟨?ramRead, ?ramWrite⟩⟩
  case romRead =>
    by_cases hlow : a.toNat ≤ 0x3FFF
    · exact busRead_rom_low hlow
    · have haddr : Cart.plainRom.romBank * 0x4000 + (a.toNat - 0x4000) = a.toNat := by rw [Cart.romBank]; omega
      rw [busRead_rom_high (by omega) h, hc, haddr]
      rfl
  case ramRead => exact (busRead_eram h h').trans (cartReadRam_plainRom hc)
  case ramWrite => exact (busWrite_eram h h').trans (cartWriteRam_plainRom hc)

/-- Settles O46: the 512 cells bound every index of the window, so external RAM is never read or written past its end. -/
theorem mbc2Banking : Obligations.Mbc2Banking := by
  unfold Obligations.Mbc2Banking
  intro s r a v hc hsize
  refine ⟨fun h h8 => busWrite_rom_of_writeRom (by omega) hc (congrArg Cart.mbc2 (Mbc2.write_latch h h8)),
    fun h h8 => busWrite_rom_of_writeRom (by omega) hc (congrArg Cart.mbc2 (Mbc2.write_bank h h8)), busRead_rom_low,
    fun h h' => ⟨busWrite_rom_ignored h' hc (congrArg Cart.mbc2 (Mbc2.write_ignored h)), ?romRead⟩, fun h h' => ?ram⟩
  case romRead => rw [busRead_rom_high h h', hc]; rfl
  case ram =>
    rw [busRead_eram h h', busWrite_eram h h']
    refine ⟨cartRam_mbc2_off hc, fun hon => ?_⟩
    have hcell : (a.toNat - 0xA000) % 512 < s.eramSize := by rw [hsize]; exact Nat.mod_lt _ (by decide)
    obtain ⟨hread, hwrite⟩ := cartRam_mbc2_on (o := a.toNat - 0xA000) (v := v) hc hon
    rw [hread, hwrite, State.eramByte, State.eramWrite, if_pos hcell, if_pos hcell]
    exact ⟨rfl, rfl⟩

/-- Settles O47: each control range by the controller's law of it, and the window by the latch and the select. -/
theorem mbc3Banking : Obligations.Mbc3Banking := by
  unfold Obligations.Mbc3Banking
  intro s r a v hc
  refine ⟨fun h => busWrite_rom_of_writeRom (by omega) hc (congrArg Cart.mbc3 (Mbc3.write_latch h)),
    fun h h' => busWrite_rom_of_writeRom (by omega) hc (congrArg Cart.mbc3 (Mbc3.write_bank h h')), fun h h' => ?select,
    fun h h' => busWrite_rom_of_writeRom h' hc (congrArg Cart.mbc3 (Mbc3.write_clockLatch h)), busRead_rom_low,
    fun h h' => ?romRead, fun h h' => ?ram⟩
  case select =>
    have hwrite : s.busWrite a v = { s with cart := .mbc3 { r with ramSel := (ramSelOf v).getD r.ramSel } } :=
      busWrite_rom_of_writeRom (by omega) hc (congrArg Cart.mbc3 (Mbc3.write_select h h'))
    refine ⟨fun hv => ?_, fun k hk hv => ?_, fun hv hv' => ?_⟩
    · rw [hwrite, ramSelOf_ram hv]; rfl
    · rw [hwrite, ramSelOf_clock k hk hv]; rfl
    · rw [hwrite, ramSelOf_ignored hv hv', Option.getD_none, ← hc]
  case romRead => rw [busRead_rom_high h h', hc]; rfl
  case ram =>
    rw [busRead_eram h h', busWrite_eram h h']
    refine ⟨cartRam_mbc3_off hc, fun b => cartRam_mbc3_bank hc, fun k hon hsel => ?_⟩
    obtain ⟨hread, hwrite⟩ := cartRam_mbc3_clock hc hon hsel
    exact ⟨hread, hwrite, (Rtc.get_set _ k k v).trans (if_pos rfl), fun j hj => (Rtc.get_set _ j k v).trans (if_neg hj)⟩

/-- Settles O48: each control range by the controller's law of it; the bank register's halves as numbers. -/
theorem mbc5Banking : Obligations.Mbc5Banking := by
  unfold Obligations.Mbc5Banking
  intro s r a v hc
  refine ⟨fun h => busWrite_rom_of_writeRom (by omega) hc (congrArg Cart.mbc5 (Mbc5.write_latch h)),
    ⟨Mbc5.bankWithLow r.romBank v, fun h h' => busWrite_rom_of_writeRom (by omega) hc (congrArg Cart.mbc5 (Mbc5.write_bankLow h h')),
      Mbc5.toNat_bankWithLow _ _⟩,
    ⟨Mbc5.bankWithHigh r.romBank v, fun h h' => busWrite_rom_of_writeRom (by omega) hc (congrArg Cart.mbc5 (Mbc5.write_bankHigh h h')),
      Mbc5.toNat_bankWithHigh _ _⟩,
    fun h h' => busWrite_rom_of_writeRom (by omega) hc (congrArg Cart.mbc5 (Mbc5.write_ramBank h h')),
    fun h h' => busWrite_rom_ignored h' hc (congrArg Cart.mbc5 (Mbc5.write_ignored h)), busRead_rom_low,
    fun h h' => ?romRead, fun h h' => ?ram⟩
  case romRead => rw [busRead_rom_high h h', hc]; rfl
  case ram =>
    rw [busRead_eram h h', busWrite_eram h h']
    exact ⟨cartRam_mbc5_off hc, cartRam_mbc5_on hc⟩

end Sys2Proof.Proofs
end

section
/-! What the header bytes select (R3, R111, R112), and the statement about them. -/

namespace Sys2Proof.Machine

/-- The controller by the type byte, as a number (R111). -/
theorem variantOfType_eq (t : Byte) : variantOfType t =
    if 1 ≤ t.toNat ∧ t.toNat ≤ 3 then .mbc1 else if 5 ≤ t.toNat ∧ t.toNat ≤ 6 then .mbc2
    else if 0x0F ≤ t.toNat ∧ t.toNat ≤ 0x13 then .mbc3 else if 0x19 ≤ t.toNat ∧ t.toNat ≤ 0x1E then .mbc5 else .plainRom := by
  revert t; decide +kernel

theorem variantOfType_eq_mbc2_iff (t : Byte) : variantOfType t = .mbc2 ↔ 5 ≤ t.toNat ∧ t.toNat ≤ 6 := by
  revert t; decide +kernel

/-- The external RAM size by the size byte, as a number (R112). -/
theorem eramSizeOfByte_eq (v : Byte) : eramSizeOfByte v =
    if v.toNat = 1 then 0x800 else if v.toNat = 2 then 0x2000 else if v.toNat = 3 then 0x8000
    else if v.toNat = 4 then 0x20000 else if v.toNat = 5 then 0x10000 else 0 := by
  unfold eramSizeOfByte
  simp only [← BitVec.toNat_inj]
  rfl

end Sys2Proof.Machine

namespace Sys2Proof.Proofs

open Sys2Proof Sys2Proof.Machine

/-- Settles O56: the header's functions, read as tables over the bytes' numbers. -/
theorem headerSelects : Obligations.HeaderSelects := by
  unfold Obligations.HeaderSelects
  intro L
  refine ⟨headerColor_iff L.rom, (variant_load _).trans (variantOfType_eq _), ?eram⟩
  case eram =>
    show headerEramSize L.rom = _
    unfold headerEramSize
    simp only [variantOfType_eq_mbc2_iff]
    split
    · rfl
    · rw [eramSizeOfByte_eq]
      generalize (headerByte L.rom 0x149).toNat = z
      match z with
      | 0 | 1 | 2 | 3 | 4 | 5 => rfl
      | _ + 6 => rfl

end Sys2Proof.Proofs
end

section
/-! The micro-operations of this family (R201, R203 to R205, R210, R220, R221) in the instructions that run them, and the statements about
them. `Laws/Flags.lean` says what each gives in numbers, and `Laws/Exec.lean` which one an instruction runs; what is left is where the
result goes. -/

namespace Sys2Proof.Machine

/-! ## Where a result goes -/

/-- An operation that gives all four flags writes A and F alone. -/
theorem Cpu.writeA_of_flags {c : Cpu} {m : MicroOut} {z n h k : Bool} (hm : m.flags = ⟨some z, some n, some h, some k⟩) :
    c.writeA m = { c with a := m.value, f := flagByte z n h k } := by
  rw [Cpu.writeA, hm]; rfl

/-- R221: BIT gives Z, N and H and keeps C. -/
theorem Cpu.setZNHC_bitFlags (c : Cpu) (b : Fin 8) (v : Byte) :
    c.setZNHC (bitFlags b v) = { c with f := flagByte (!v.getLsbD b.val) false true c.flagC } := rfl

/-- R210: ADD HL,rr gives N, H and C and keeps Z. -/
theorem Cpu.setZNHC_add16Flags (c : Cpu) (x y : Word) :
    c.setZNHC (add16Flags x y) = { c with
      f := flagByte c.flagZ false (decide (x.toNat % 4096 + y.toNat % 4096 > 4095)) (decide (x.toNat + y.toNat > 65535)) } := rfl

theorem State.mapCpu_noteRead (s : State) (w : Word) (g : Cpu → Cpu) :
    (s.noteRead w).mapCpu g = { s.noteRead w with cpu := g s.cpu } := by
  rw [State.mapCpu, State.noteRead_cpu]

/-! ## The ALU operations on their three forms of operand -/

section

variable (o : AluOp) (src : AluSource) (s : State)

@[simp] theorem AluSource.after_cpu : (src.after s).cpu = s.cpu := by
  cases src with
  | reg r => rfl
  | atHL => exact State.noteRead_cpu s s.cpu.hl
  | imm v => rfl

theorem exec_aluSource : exec (src.instr o) s =
    .next ((src.after s).mapCpu fun c => c.writeA (aluOp o c.a (src.value s) c.flagC)) := by
  cases src with
  | reg r => exact exec_aluReg s o r
  | atHL => exact exec_aluHL s o
  | imm v => exact exec_aluImm s v o

variable {o src s}

theorem exec_aluSource_of_flags {m : MicroOut} {z n h k : Bool} (ho : aluOp o s.cpu.a (src.value s) s.cpu.flagC = m)
    (hm : m.flags = ⟨some z, some n, some h, some k⟩) :
    exec (src.instr o) s = .next { src.after s with cpu := { s.cpu with a := m.value, f := flagByte z n h k } } := by
  rw [exec_aluSource, State.mapCpu, AluSource.after_cpu, ho, Cpu.writeA_of_flags hm]

/-- An operation that is `add8` with the carry-in `cin` leaves the sum in A and its flags in F (R201). -/
theorem exec_add8 {cin : Bool} (ho : aluOp o s.cpu.a (src.value s) s.cpu.flagC = add8 s.cpu.a (src.value s) cin) : ∃ a f : Byte,
    exec (src.instr o) s = .next { src.after s with cpu := { s.cpu with a := a, f := f } } ∧
    a.toNat = (s.cpu.a.toNat + (src.value s).toNat + cin.toNat) % 256 ∧
    FlagsAre f (decide (a = 0)) false (decide (s.cpu.a.toNat % 16 + (src.value s).toNat % 16 + cin.toNat > 15))
      (decide (s.cpu.a.toNat + (src.value s).toNat + cin.toNat > 255)) := by
  obtain ⟨hvalue, hflags⟩ := add8_spec s.cpu.a (src.value s) cin
  exact ⟨_, _, exec_aluSource_of_flags ho hflags, hvalue, flagsAre_flagByte ..⟩

theorem logicOut_flags (r : Byte) (h : Bool) : (logicOut r h).flags = ⟨some (decide (r = 0)), some false, some h, some false⟩ := by
  rw [logicOut, beq_zero]

/-- A logical operation that is `g` on every bit leaves its result in A, and in F whether it is 0 and the operation's H (R203 to R205). -/
theorem exec_logic {g : Bool → Bool → Bool} {r : Byte} {h : Bool} (ho : aluOp o s.cpu.a (src.value s) s.cpu.flagC = logicOut r h)
    (hr : ∀ k, r.getLsbD k = g (s.cpu.a.getLsbD k) ((src.value s).getLsbD k)) : ∃ a f : Byte,
    exec (src.instr o) s = .next { src.after s with cpu := { s.cpu with a := a, f := f } } ∧
    (∀ k < 8, a.getLsbD k = g (s.cpu.a.getLsbD k) ((src.value s).getLsbD k)) ∧
    FlagsAre f (decide (a = 0)) false h false :=
  ⟨_, _, exec_aluSource_of_flags ho (logicOut_flags r h), fun k _ => hr k, flagsAre_flagByte ..⟩

end

/-! ## The arithmetic of words -/

theorem toNat_sub_one (x : Word) : (x - 1).toNat = (x.toNat + 65535) % 65536 := by
  rw [BitVec.toNat_sub, Nat.add_comm]; rfl

/-- The target of JR: PC moved by the signed offset, modulo 2^16 (R353). -/
theorem toNat_add_sext16 (pc : Word) (e : Byte) : ((pc + sext16 e).toNat : Int) = ((pc.toNat : Int) + e.toInt) % 65536 := by
  have hsext : (sext16 e).toInt = e.toInt := BitVec.toInt_signExtend_of_le (by decide)
  have hmod : ((sext16 e).toNat : Int) % 65536 = (sext16 e).toInt % 65536 := by
    rw [BitVec.toInt_eq_toNat_bmod]; exact (Int.bmod_emod ..).symm
  rw [BitVec.toNat_add, ← hsext, Int.add_emod, ← hmod, ← Int.add_emod]
  rfl

end Sys2Proof.Machine

namespace Sys2Proof.Proofs

open Sys2Proof Sys2Proof.Machine

/-- Settles O20: ADD is `add8` with carry-in 0, and ADC with the C flag. -/
theorem addAndAdc : Obligations.AddAndAdc := by
  unfold Obligations.AddAndAdc
  intro src s oc hoc
  obtain rfl | rfl := List.mem_pair.mp hoc
  · exact exec_add8 (cin := false) rfl
  · exact exec_add8 (cin := s.cpu.flagC) rfl

/-- Settles O22: each is one operation on every bit. -/
theorem andOrXor : Obligations.AndOrXor := by
  unfold Obligations.AndOrXor
  intro src s og hog
  simp only [List.mem_cons, List.not_mem_nil, or_false] at hog
  obtain rfl | rfl | rfl := hog
  · exact exec_logic rfl fun _ => BitVec.getLsbD_and
  · exact exec_logic rfl fun _ => BitVec.getLsbD_or
  · exact exec_logic rfl fun _ => BitVec.getLsbD_xor

/-- Settles O30: BIT writes the flags of the bit, after the read where the operand is the byte at HL. -/
theorem testBit : Obligations.TestBit := by
  unfold Obligations.TestBit
  intro b s
  refine ⟨fun x => ⟨_, ?register, flagsAre_flagByte ..⟩, ⟨_, ?memory, flagsAre_flagByte ..⟩⟩
  case register => exact exec_bitReg s b x
  case memory =>
    rw [exec_bitHL, Machine.testBit, State.noteOperand, State.mapCpu_noteRead, Cpu.setZNHC_bitFlags]
    rfl

/-- Settles O32: the three instructions are writes of a pair, and ADD HL,rr of three flags. -/
theorem pairArithmetic : Obligations.PairArithmetic := by
  unfold Obligations.PairArithmetic
  intro p s
  refine ⟨add16Value s.cpu.hl (s.cpu.pair p), s.cpu.pair p + 1, s.cpu.pair p - 1, _, ?addHL, add16_spec .., flagsAre_flagByte ..,
    exec_incPair s p, BitVec.toNat_add .., exec_decPair s p, toNat_sub_one _⟩
  case addHL =>
    rw [exec_addHL, addHL, State.mapCpu, Cpu.setZNHC_add16Flags]
    rfl

/-- Settles O33: a jump writes PC, and a conditional one that is taken adds its surcharge. -/
theorem jumps : Obligations.Jumps := by
  unfold Obligations.Jumps
  intro s
  exact ⟨⟨rfl, rfl, rfl, rfl⟩, exec_jpA16 s, exec_jpHL s,
    fun e => ⟨s.cpu.pc + sext16 e, toNat_add_sext16 _ e, exec_jrE8 s e, exec_jrCond s e⟩, fun k a => exec_jpCond s a k⟩

end Sys2Proof.Proofs
end

section
/-! The default cycle costs (R472, R473). In the CB table and in the two middle blocks of the main table a cost follows the fields of the
encoding: the operand codes decide it by whether they name a register or the byte at HL. The other forms of the main table have no such
rule, and cost their entries. -/

namespace Sys2Proof.Machine

/-! ## The encodings by fields (R168, R169) -/

/-- Code 6 names no register (R163). -/
theorem regCode_ne_six (r : Reg8) : r.code ≠ 6#3 := by
  cases r <;> decide

section

variable (a : AluOp) (o : RotOp) (b : Fin 8) (q r : Reg8)

theorem encode_ldReg : encode (.ldReg q r) = [1#2 ++ q.code ++ r.code] := by
  cases q <;> cases r <;> rfl

theorem encode_ldFromHL : encode (.ldFromHL r) = [1#2 ++ r.code ++ 6#3] := by
  cases r <;> rfl

theorem encode_ldToHL : encode (.ldToHL r) = [1#2 ++ 6#3 ++ r.code] := by
  cases r <;> rfl

theorem encode_aluReg : encode (.aluReg a r) = [2#2 ++ a.code ++ r.code] := by
  cases a <;> cases r <;> rfl

theorem encode_aluHL : encode (.aluHL a) = [2#2 ++ a.code ++ 6#3] := by
  cases a <;> rfl

theorem encode_rotReg : encode (.rotReg o r) = [0xCB, 0#2 ++ o.code ++ r.code] := by
  cases o <;> cases r <;> rfl

theorem encode_rotHL : encode (.rotHL o) = [0xCB, 0#2 ++ o.code ++ 6#3] := by
  cases o <;> rfl

theorem encode_bitReg : encode (.bitReg b r) = [0xCB, 1#2 ++ BitVec.ofFin (w := 3) b ++ r.code] := by
  fin_cases b <;> cases r <;> rfl

theorem encode_bitHL : encode (.bitHL b) = [0xCB, 1#2 ++ BitVec.ofFin (w := 3) b ++ 6#3] := by
  fin_cases b <;> rfl

theorem encode_resReg : encode (.resReg b r) = [0xCB, 2#2 ++ BitVec.ofFin (w := 3) b ++ r.code] := by
  fin_cases b <;> cases r <;> rfl

theorem encode_resHL : encode (.resHL b) = [0xCB, 2#2 ++ BitVec.ofFin (w := 3) b ++ 6#3] := by
  fin_cases b <;> rfl

theorem encode_setReg : encode (.setReg b r) = [0xCB, 3#2 ++ BitVec.ofFin (w := 3) b ++ r.code] := by
  fin_cases b <;> cases r <;> rfl

theorem encode_setHL : encode (.setHL b) = [0xCB, 3#2 ++ BitVec.ofFin (w := 3) b ++ 6#3] := by
  fin_cases b <;> rfl

end

/-! ## The default tables by fields -/

section

variable (x : BitVec 2) (y z : BitVec 3)

/-- R473: the operand at HL is code 6, and field 1 is BIT. -/
theorem defaultCycCb_fields :
    defaultCycCb.getD (x ++ y ++ z : Byte).toNat 0 = if z = 6 then (if x = 1 then 12 else 16) else 8 := by
  decide +revert

/-- Rows 4x to 7x of R472, the loads; with both codes 6 the byte is HALT. -/
theorem defaultCycMain_loads :
    defaultCycMain.getD (1#2 ++ y ++ z : Byte).toNat 0 = if (y = 6 ↔ z = 6) then 4 else 8 := by
  decide +revert

/-- Rows 8x to Bx of R472, the ALU operations. -/
theorem defaultCycMain_alu : defaultCycMain.getD (2#2 ++ y ++ z : Byte).toNat 0 = if z = 6 then 8 else 4 := by
  decide +revert

/-- The two middle blocks hold no unrecognized byte, nor 0xCB. -/
theorem middle_blocks_recognized (hx : x = 1 ∨ x = 2) :
    (x ++ y ++ z : Byte) ∉ illegalOpcodes ∧ (x ++ y ++ z : Byte) ≠ 0xCB := by
  decide +revert

end

/-! ## The base costs by fields -/

section

variable {i : Instr} {x : BitVec 2} {y z : BitVec 3} (echo : EchoMode)

theorem baseCycles_cb (h : encode i = [0xCB, x ++ y ++ z]) :
    baseCycles (defaultParams echo) i = if z = 6 then (if x = 1 then 12 else 16) else 8 := by
  rw [baseCycles, h]; exact defaultCycCb_fields x y z

theorem baseCycles_middle (hx : x = 1 ∨ x = 2) (h : encode i = [x ++ y ++ z]) :
    baseCycles (defaultParams echo) i = defaultCycMain.getD (x ++ y ++ z : Byte).toNat 0 := by
  rw [baseCycles, h]
  exact if_neg (by simpa using (middle_blocks_recognized x y z hx).1)

theorem baseCycles_load (h : encode i = [1#2 ++ y ++ z]) :
    baseCycles (defaultParams echo) i = if (y = 6 ↔ z = 6) then 4 else 8 :=
  (baseCycles_middle echo (.inl rfl) h).trans (defaultCycMain_loads y z)

theorem baseCycles_alu (h : encode i = [2#2 ++ y ++ z]) : baseCycles (defaultParams echo) i = if z = 6 then 8 else 4 :=
  (baseCycles_middle echo (.inr rfl) h).trans (defaultCycMain_alu y z)

end

end Sys2Proof.Machine

namespace Sys2Proof.Proofs

open Sys2Proof Sys2Proof.Machine

/-- Settles O11: the CB table and the middle blocks of the main table by their fields, every other form by its entry, for
each code of its operand. -/
theorem defaultCycleCosts : Obligations.DefaultCycleCosts := by
  unfold Obligations.DefaultCycleCosts
  rintro echo i n (⟨q, r, rfl, rfl⟩ | ⟨r, v, rfl, rfl⟩ | ⟨r, rfl, rfl⟩ | ⟨r, rfl, rfl⟩ | ⟨v, rfl, rfl⟩ | ⟨hi, rfl⟩ |
    ⟨a, rfl | rfl, rfl⟩ | ⟨v, rfl | rfl, rfl⟩ | ⟨p, v, rfl, rfl⟩ | ⟨a, rfl, rfl⟩ | ⟨e, rfl, rfl⟩ | ⟨p, rfl, rfl⟩ | ⟨p, rfl, rfl⟩ |
    ⟨o, r, rfl, rfl⟩ | ⟨o, rfl, rfl⟩ | ⟨o, v, rfl, rfl⟩ | ⟨r, rfl | rfl, rfl⟩ | ⟨hi, rfl⟩ | ⟨hi, rfl⟩ |
    ⟨v, rfl, rfl⟩ | ⟨x, rfl, rfl⟩ | ⟨p, rfl | rfl | rfl, rfl⟩ | ⟨e, rfl, rfl⟩ |
    ⟨a, rfl, rfl⟩ | ⟨k, a, rfl, rfl⟩ | ⟨e, rfl, rfl⟩ | ⟨k, e, rfl, rfl⟩ | ⟨a, rfl, rfl⟩ | ⟨k, a, rfl, rfl⟩ |
    ⟨hi, rfl⟩ | ⟨k, rfl, rfl⟩ | ⟨y, rfl, rfl⟩ |
    ⟨o, r, rfl, rfl⟩ | ⟨o, rfl, rfl⟩ | ⟨b, r, rfl | rfl | rfl, rfl⟩ | ⟨b, rfl, rfl⟩ | ⟨b, rfl | rfl, rfl⟩)
  -- LD r,r'; LD r,d8; LD r,(HL); LD (HL),r; LD (HL),d8
  · simp [baseCycles_load echo (encode_ldReg q r), regCode_ne_six]
  · cases r <;> rfl
  · simp [baseCycles_load echo (encode_ldFromHL r), regCode_ne_six]
  · simp [baseCycles_load echo (encode_ldToHL r), regCode_ne_six]
  · rfl
  -- the loads without an operand byte; A from and to (a16); LDH from and to (a8)
  · fin_cases hi <;> rfl
  · rfl
  · rfl
  · rfl
  · rfl
  -- LD rr,d16; LD (a16),SP; LD HL,SP+e8; PUSH; POP
  · cases p <;> rfl
  · rfl
  · rfl
  · cases p <;> rfl
  · cases p <;> rfl
  -- the ALU operations on r, (HL) and d8; INC r; DEC r; INC and DEC (HL)
  · exact (baseCycles_alu echo (encode_aluReg o r)).trans (if_neg (regCode_ne_six r))
  · exact baseCycles_alu echo (encode_aluHL o)
  · cases o <;> rfl
  · cases r <;> rfl
  · cases r <;> rfl
  · fin_cases hi <;> rfl
  -- the forms of 4 cycles without operands; STOP; the unrecognized bytes
  · fin_cases hi <;> rfl
  · rfl
  · cases x <;> rfl
  -- ADD HL,rr; INC rr; DEC rr; ADD SP,e8
  · cases p <;> rfl
  · cases p <;> rfl
  · cases p <;> rfl
  · rfl
  -- JP and JP cc; JR and JR cc; CALL and CALL cc
  · rfl
  · cases k <;> rfl
  · rfl
  · cases k <;> rfl
  · rfl
  · cases k <;> rfl
  -- RET and RETI; RET cc; RST
  · fin_cases hi <;> rfl
  · cases k <;> rfl
  · fin_cases y <;> rfl
  -- rotates on r and (HL); BIT, RES and SET on r; BIT on (HL); RES and SET on (HL)
  · exact (baseCycles_cb echo (encode_rotReg o r)).trans (if_neg (regCode_ne_six r))
  · exact baseCycles_cb echo (encode_rotHL o)
  · exact (baseCycles_cb echo (encode_bitReg b r)).trans (if_neg (regCode_ne_six r))
  · exact (baseCycles_cb echo (encode_resReg b r)).trans (if_neg (regCode_ne_six r))
  · exact (baseCycles_cb echo (encode_setReg b r)).trans (if_neg (regCode_ne_six r))
  · exact baseCycles_cb echo (encode_bitHL b)
  · exact baseCycles_cb echo (encode_resHL b)
  · exact baseCycles_cb echo (encode_setHL b)

end Sys2Proof.Proofs
end

section
/-! What every step and every host action keeps: legality, the low nibble of F, the bank state and the load-time configuration. `Effect`
says what the execute phase of a step can do, and `finishStep_keeps` what the phases after it leave alone. -/

namespace Sys2Proof.Machine

variable {s t : State} {a : Word} {v : Byte} {k n i : Nat}

/-! ## The low nibble of F (R22) -/

/-- The low nibble as a mask and as a remainder. -/
theorem and_0F_eq_zero_iff (f : Byte) : f &&& 0x0F = 0 ↔ f.toNat % 16 = 0 := by
  have hlow : (f &&& 0x0F).toNat = f.toNat % 16 := by
    rw [BitVec.toNat_and]; exact Nat.and_two_pow_sub_one_eq_mod f.toNat 4
  rw [← BitVec.toNat_inj, hlow]
  rfl

theorem flagsMasked_iff : s.flagsMasked = true ↔ s.cpu.f &&& 0x0F = 0 := beq_iff_eq

theorem step_flags (h : step s = .next t) (hf : s.cpu.f &&& 0x0F = 0) : t.cpu.f &&& 0x0F = 0 := by
  obtain ⟨u, rfl, he⟩ := step_cases h
  rw [(finishStep_keeps u).1]
  exact he.flagsMasked hf

/-! ## The configuration (R69, R113) -/

/-- No step changes the ROM, the load-time configuration or the host's pressed mask. -/
theorem step_config (h : step s = .next t) :
    t.rom = s.rom ∧ t.romLen = s.romLen ∧ t.eramSize = s.eramSize ∧ t.color = s.color ∧ t.params = s.params ∧
      t.buttons = s.buttons ∧ t.cart.variant = s.cart.variant := by
  obtain ⟨u, rfl, he⟩ := step_cases h
  obtain ⟨-, -, -, -, hfin⟩ := finishStep_keeps u
  simp only [State.offBus, Prod.mk.injEq] at hfin
  obtain ⟨h1, h2, h3, h4, h5, h6, h7⟩ := hfin
  obtain ⟨e1, e2, e3, e4, e5, e6, e7⟩ := he.offBus_config
  exact ⟨h1.trans e1, h2.trans e2, h3.trans e3, h4.trans e4, h5.trans e5, h6.trans e6, h7.trans e7⟩

/-! ## The clock (R415) -/

theorem clockWf_iff : s.clockWf = true ↔ s.engine.clockM = s.engine.clockT / 4 := decide_eq_true_iff

/-- A step advances the clock by what it reports, and counts M-cycles as a quarter of it. -/
theorem step_clock (h : step s = .next t) :
    t.engine.clockT = s.engine.clockT + t.engine.cycles ∧ t.engine.clockM = t.engine.clockT / 4 := by
  obtain ⟨u, rfl, he⟩ := step_cases h
  obtain ⟨-, hT, hM, -, -⟩ := finishStep_keeps u
  exact ⟨by rw [hT, he.clock.1], hM⟩

/-! ## The bank state (R30, R31, R107) -/

/-- The two copies change one array and the draw counter alone. -/
theorem oamCopy_eq (src : Word) (n i : Nat) (s : State) : State.oamCopy src n i s =
    { s with oam := (State.oamCopy src n i s).oam, draws := (State.oamCopy src n i s).draws } := by
  induction n generalizing s i with
  | zero => rfl
  | succ n ih =>
    rw [State.oamCopy, ih, noteRead_eq]

theorem hdmaCopy_eq (src : Word) (doff n i : Nat) (s : State) : State.hdmaCopy src doff n i s =
    { s with vram := (State.hdmaCopy src doff n i s).vram, draws := (State.hdmaCopy src doff n i s).draws } := by
  induction n generalizing s i with
  | zero => rfl
  | succ n ih =>
    rw [State.hdmaCopy, ih, noteRead_eq]
    rfl

/-- What `State.banksWf` reads. -/
def State.banks (s : State) : Bool × BitVec 1 × BitVec 3 × Speed × Hdma :=
  (s.color, s.vramBank, s.wramBank, s.speed, s.hdma)

theorem banksWf_congr (h : t.banks = s.banks) : t.banksWf = s.banksWf := by
  simp only [State.banks, Prod.mk.injEq] at h
  obtain ⟨h1, h2, h3, h4, h5⟩ := h
  unfold State.banksWf
  rw [h1, h2, h3, h4, h5]

theorem banksWf_iff : s.banksWf = true ↔ s.wramBank ≠ 0 ∧
    (s.color = false → s.vramBank = 0 ∧ s.wramBank = 1 ∧ s.speed = Speed.launch ∧ s.hdma = Hdma.launch) := by
  unfold State.banksWf
  cases s.color <;> simp [and_assoc]

theorem banks_oamCopy (src : Word) : (State.oamCopy src n i s).banks = s.banks := by rw [oamCopy_eq]; rfl

theorem banks_hdmaCopy (src : Word) (d : Nat) : (State.hdmaCopy src d n i s).banks = s.banks := by rw [hdmaCopy_eq]; rfl

/-- In color mode only WRAM bank 0 is out of question. -/
theorem banksWf_of_color (hc : s.color = true) (hw : s.wramBank ≠ 0) : s.banksWf = true :=
  banksWf_iff.mpr ⟨hw, mono_of_color hc⟩

theorem banksWf_writeHdma5 (hc : s.color = true) (hs : s.banksWf = true) : (s.writeHdma5 v).banksWf = true := by
  have hw := (banksWf_iff.mp hs).1
  unfold State.writeHdma5
  split
  · exact banksWf_of_color hc hw
  · split
    · exact (banksWf_congr (banks_hdmaCopy (s := s) s.hdmaSource s.hdmaDestOffset)).trans hs
    · exact banksWf_of_color hc hw

theorem banksWf_ioWrite (hs : s.banksWf = true) : (s.ioWrite k v).banksWf = true := by
  have hw := (banksWf_iff.mp hs).1
  have hp := ioPort_at s.color k
  unfold State.ioWrite
  cases hport : ioPort s.color k <;> rw [hport] at hp <;> dsimp only
  case dma => exact (banksWf_congr (banks_oamCopy (s := s.setIo 0x46 v) _)).trans hs
  case hdma5 => exact banksWf_writeHdma5 hp.1 hs
  case key1 => exact banksWf_of_color hp.1 hw
  case vbk => exact banksWf_of_color hp.1 hw
  case svbk => exact banksWf_of_color hp.1 (svbkBank_ne_zero v)
  all_goals exact hs

theorem banks_cartWriteRam : (s.cartWriteRam k v).banks = s.banks := by
  unfold State.cartWriteRam State.eramWrite
  split <;> (repeat' split) <;> rfl

theorem banksWf_busWrite (hs : s.banksWf = true) : (s.busWrite a v).banksWf = true := by
  unfold State.busWrite
  dsimp only
  split; · exact hs
  split; · exact hs
  split; · exact (banksWf_congr banks_cartWriteRam).trans hs
  split; · exact hs
  split; · split <;> exact hs
  split; · exact hs
  split; · exact hs
  exact banksWf_ioWrite hs

theorem Effect.banksWf (h : Effect s t) (hs : s.banksWf = true) : t.banksWf = true := by
  induction h with
  | refl => exact hs
  | read a _ ih => rw [noteRead_eq]; exact ih
  | write a v _ ih => exact banksWf_busWrite ih
  | cpu g _ _ ih => exact ih
  | engine g _ _ ih => exact ih
  | @speed u x hc _ ih => exact banksWf_of_color hc (banksWf_iff.mp ih).1

theorem banks_timerTick (c : Nat) : (s.timerTick c).banks = s.banks :=
  (congrArg State.banks (offTimer_timerTick (s := s) c) :)

theorem banksWf_interruptPhase (hs : s.banksWf = true) : s.interruptPhase.1.banksWf = true := by
  rcases interruptPhase_cases s with ⟨g, -, hg⟩ | ⟨x, -, -, -, -, hx⟩
  · rw [hg]; exact hs
  · rw [hx]; exact (Effect.refl _).push16.setPc.banksWf hs

theorem banksWf_finishStep (hs : s.banksWf = true) : s.finishStep.banksWf = true := by
  have hphase := banksWf_interruptPhase ((banksWf_congr (banks_timerTick s.engine.cycles)).trans hs)
  rw [finishStep_eq]
  split
  · exact (banksWf_congr (banks_timerTick _)).trans hphase
  · exact hphase

theorem step_banksWf (h : step s = .next t) (hs : s.banksWf = true) : t.banksWf = true := by
  obtain ⟨u, rfl, he⟩ := step_cases h
  exact banksWf_finishStep (he.banksWf hs)

/-! ## Legality -/

theorem step_legal (h : step s = .next t) (hs : s.legal = true) : t.legal = true := by
  obtain ⟨hp, hf, -, hb⟩ := legal_iff.mp hs
  obtain ⟨-, -, -, -, hparams, -, -⟩ := step_config h
  refine legal_iff.mpr ⟨by rw [hparams]; exact hp, flagsMasked_iff.mpr (step_flags h (flagsMasked_iff.mp hf)),
    clockWf_iff.mpr (step_clock h).2, ?bus⟩
  case bus =>
    obtain ⟨u, rfl, he⟩ := step_cases h
    exact (he.busWf hb).finishStep

/-- A launch from canonical contents is legal, whatever of the host's it stands beside. -/
theorem launch_legal (L : LaunchInput) (h : L.wf = true) : (State.launch L).legal = true := by
  have hp : L.params.wf = true := (Bool.and_eq_true_iff.mp h).2
  exact legal_iff.mpr ⟨hp, launch_flagsMasked L, clockWf_iff.mpr (Nat.zero_div 4).symm, launch_busWf L h⟩

theorem hostAct_legal (x : HostAction) (hx : ∀ L, x = .loadRom L → L.wf = true) (hs : s.legal = true) :
    (s.hostAct x).legal = true := by
  obtain ⟨hp, hf, hc, hb⟩ := legal_iff.mp hs
  by_cases hload : ∃ L, x = .loadRom L
  · obtain ⟨L, rfl⟩ := hload
    exact launch_legal L (hx L rfl)
  · obtain ⟨hbus, hcpu, hengine, hparams⟩ := hostAct_keeps hb x fun L hL => hload ⟨L, hL⟩
    refine legal_iff.mpr ⟨by rw [hparams]; exact hp, ?_, ?_, hbus⟩
    · rw [flagsMasked_iff, hcpu]; exact flagsMasked_iff.mp hf
    · rw [clockWf_iff, hengine]; exact clockWf_iff.mp hc

end Sys2Proof.Machine

namespace Sys2Proof.Proofs

open Sys2Proof Sys2Proof.Machine

/-- Settles O57: legality is kept by the chain of actions of a step and the phases after it, and by each host action. -/
theorem eventsKeepLegal : Obligations.EventsKeepLegal := by
  unfold Obligations.EventsKeepLegal
  intro s t e hload hs ht
  cases e with
  | step => exact step_legal ht hs
  | host x =>
    obtain rfl : s.hostAct x = t := Host.Outcome.next.inj ht
    exact hostAct_legal x (fun L hL => hload L (congrArg Event.host hL)) hs

/-- Settles O58; the state after reset is the launch of the empty ROM. -/
theorem launchIsLegal : Obligations.LaunchIsLegal :=
  ⟨launch_legal, launch_legal _ empty_wf⟩

/-- Settles O59: every action of a step keeps both facts, and so do the phases after them. -/
theorem flagsAndBanksInvariant : Obligations.FlagsAndBanksInvariant := by
  unfold Obligations.FlagsAndBanksInvariant
  intro s t h
  simp only [← and_0F_eq_zero_iff]
  exact ⟨step_flags h, step_banksWf h⟩

/-- Settles O60. -/
theorem configurationIsFixed : Obligations.ConfigurationIsFixed := by
  unfold Obligations.ConfigurationIsFixed
  intro s t h
  obtain ⟨hrom, hlen, hsize, hcolor, hparams, hbuttons, hvariant⟩ := step_config h
  exact ⟨hrom, hlen, hcolor, hsize, hparams, hvariant, hbuttons⟩

/-- Settles O8: `exec` and `step` answer a next state by their laws of what they can do. -/
theorem nothingStops : Obligations.NothingStops := by
  unfold Obligations.NothingStops
  exact ⟨fun i s => (exec_effect i s).imp fun _ h => h.1, fun s => (step_effect s).elim fun _ h => ⟨_, h.1⟩⟩

end Sys2Proof.Proofs
end

section
/-! The decoder and the encoder (R160 to R172): every entry of either table encodes to the bytes that select it, what decoding can answer,
and the statements about decoding. -/

namespace Sys2Proof

open Sys2Proof.Machine

/-! ## The two tables and the encoder agree -/

/-- The instructions of an entry encode to the byte `op` that selects it and their operand bytes (R160). -/
def Entry.EncodesAs (op : Byte) : Entry → Prop
  | .op i => encode i = [op] ∧ i.wellFormed = true
  | .imm8 f => ∀ v, encode (f v) = [op, v] ∧ (f v).wellFormed = true
  | .imm16 f => ∀ w, encode (f w) = [op, loByte w, hiByte w] ∧ (f w).wellFormed = true
  | .cb => op = 0xCB

/-- The entries of a piece of the table that starts at the byte `op` encode as the bytes from `op` on. -/
def EntriesEncode : Byte → List Entry → Prop
  | _, [] => True
  | op, e :: es => e.EncodesAs op ∧ EntriesEncode (op + 1#8) es

theorem EntriesEncode.getD {op : Byte} {es : List Entry} (h : EntriesEncode op es) (e : Entry) {n : Nat} (hn : n < es.length) :
    (es.getD n e).EncodesAs (op + BitVec.ofNat 8 n) := by
  induction es generalizing op n with
  | nil => exact absurd hn (Nat.not_lt_zero n)
  | cons x es ih =>
    cases n with
    | zero => rw [List.getD_cons_zero, BitVec.add_zero]; exact h.1
    | succ n =>
      have hop : op + BitVec.ofNat 8 (n + 1) = op + 1#8 + BitVec.ofNat 8 n := by
        rw [Nat.add_comm, BitVec.ofNat_add, BitVec.add_assoc]
      rw [List.getD_cons_succ, hop]
      exact ih h.2 (Nat.lt_of_succ_lt_succ hn)

/-- Entry by entry of the table, by the encoder's equation of the entry's instruction. -/
theorem entriesEncode_mainTable : EntriesEncode 0#8 mainTable := by
  repeat' first | exact trivial | refine ⟨⟨rfl, rfl⟩, ?_⟩ | refine ⟨fun _ => ⟨rfl, rfl⟩, ?_⟩ | refine ⟨rfl, ?_⟩

theorem length_mainTable : mainTable.length = 256 := by decide +kernel

theorem mainEntry_encodesAs (op : Byte) : (mainEntry op).EncodesAs op := by
  have h := entriesEncode_mainTable.getD (.op .nop) (n := op.toNat) (by rw [length_mainTable]; exact op.isLt)
  rwa [BitVec.ofNat_toNat, BitVec.setWidth_eq, BitVec.zero_add] at h

theorem encode_cbEntry : ∀ op2 : Byte, encode (cbEntry op2) = [0xCB, op2] ∧ (cbEntry op2).wellFormed = true := by
  decide +kernel

theorem mainEntry_cb : mainEntry 0xCB = .cb := rfl

/-! ## The four formats of the decoder -/

variable {op op2 v lo hi b0 b1 b2 : Byte} {i : Instr} {bytes rest tail : List Byte}

theorem decode_op (h : mainEntry op = .op i) : decode (op :: rest) = .ok (i, rest) := by
  unfold decode; dsimp only; rw [h]

theorem decode_imm8 {f : Byte → Instr} (h : mainEntry op = .imm8 f) : decode (op :: v :: rest) = .ok (f v, rest) := by
  unfold decode; dsimp only; rw [h]

theorem decode_imm16 {f : Word → Instr} (h : mainEntry op = .imm16 f) :
    decode (op :: lo :: hi :: rest) = .ok (f (join hi lo), rest) := by
  unfold decode; dsimp only; rw [h]

theorem decode_cb (h : mainEntry op = .cb) : decode (op :: op2 :: rest) = .ok (cbEntry op2, rest) := by
  unfold decode; dsimp only; rw [h]

/-- What a byte string that decodes is, by the format of its first byte. -/
theorem decode_cases (h : decode bytes = .ok (i, rest)) : ∃ op : Byte,
    (mainEntry op = .op i ∧ bytes = op :: rest) ∨
    (∃ f v, mainEntry op = .imm8 f ∧ i = f v ∧ bytes = op :: v :: rest) ∨
    (∃ f lo hi, mainEntry op = .imm16 f ∧ i = f (join hi lo) ∧ bytes = op :: lo :: hi :: rest) ∨
    (∃ op2, mainEntry op = .cb ∧ i = cbEntry op2 ∧ bytes = op :: op2 :: rest) := by
  match bytes with
  | [] => cases h
  | op :: bytes =>
    refine ⟨op, ?_⟩
    unfold decode at h
    dsimp only at h
    cases he : mainEntry op with
    | op j =>
      rw [he] at h
      cases h
      exact .inl ⟨rfl, rfl⟩
    | imm8 f =>
      rw [he] at h
      match bytes with
      | [] => cases h
      | _ :: _ => cases h; exact .inr (.inl ⟨_, _, rfl, rfl, rfl⟩)
    | imm16 f =>
      rw [he] at h
      match bytes with
      | [] => cases h
      | [_] => cases h
      | _ :: _ :: _ => cases h; exact .inr (.inr (.inl ⟨_, _, _, rfl, rfl, rfl⟩))
    | cb =>
      rw [he] at h
      match bytes with
      | [] => cases h
      | _ :: _ => cases h; exact .inr (.inr (.inr ⟨_, rfl, rfl, rfl⟩))

/-- Bytes that follow an instruction are left over. -/
theorem decode_append (h : decode bytes = .ok (i, rest)) : decode (bytes ++ tail) = .ok (i, rest ++ tail) := by
  obtain ⟨op, ⟨he, rfl⟩ | ⟨f, v, he, rfl, rfl⟩ | ⟨f, lo, hi, he, rfl, rfl⟩ | ⟨op2, he, rfl, rfl⟩⟩ := decode_cases h
  · exact decode_op he
  · exact decode_imm8 he
  · exact decode_imm16 he
  · exact decode_cb he

/-- What decodes is well formed, and its encoding is the bytes read. -/
theorem encode_of_decode (h : decode bytes = .ok (i, rest)) : i.wellFormed = true ∧ encode i ++ rest = bytes := by
  obtain ⟨op, ⟨he, rfl⟩ | ⟨f, v, he, rfl, rfl⟩ | ⟨f, lo, hi, he, rfl, rfl⟩ | ⟨op2, he, rfl, rfl⟩⟩ := decode_cases h <;>
    have henc := mainEntry_encodesAs op <;> rw [he] at henc
  · obtain ⟨hbytes, hwf⟩ := henc
    exact ⟨hwf, by rw [hbytes]; rfl⟩
  · obtain ⟨hbytes, hwf⟩ := henc v
    exact ⟨hwf, by rw [hbytes]; rfl⟩
  · obtain ⟨hbytes, hwf⟩ := henc (join hi lo)
    exact ⟨hwf, by rw [hbytes, loByte_join, hiByte_join]; rfl⟩
  · obtain rfl : op = 0xCB := henc
    obtain ⟨hbytes, hwf⟩ := encode_cbEntry op2
    exact ⟨hwf, by rw [hbytes]; rfl⟩

/-! ## What three bytes decode to -/

/-- The bytes that an entry takes, its own among them (R160, R171). -/
def Entry.size : Entry → Nat
  | .op _ => 1
  | .imm8 _ => 2
  | .imm16 _ => 3
  | .cb => 2

/-- The instruction of an entry before the bytes `b1` and `b2`. -/
def Entry.instr (b1 b2 : Byte) : Entry → Instr
  | .op i => i
  | .imm8 f => f b1
  | .imm16 f => f (join b2 b1)
  | .cb => cbEntry b1

theorem Entry.size_bounds (e : Entry) : 1 ≤ e.size ∧ e.size ≤ 3 := by
  cases e <;> simp [Entry.size]

theorem decode_three : decode (b0 :: b1 :: b2 :: rest) =
    .ok ((mainEntry b0).instr b1 b2, (b0 :: b1 :: b2 :: rest).drop (mainEntry b0).size) := by
  cases h : mainEntry b0 with
  | op i => exact decode_op h
  | imm8 f => exact decode_imm8 h
  | imm16 f => exact decode_imm16 h
  | cb => exact decode_cb h

/-- The length of the instruction read is that of its entry. -/
theorem length_instr : ((mainEntry b0).instr b1 b2).length = (mainEntry b0).size := by
  have hbytes := (encode_of_decode (decode_three (b0 := b0) (b1 := b1) (b2 := b2) (rest := []))).2
  have hlen := congrArg List.length hbytes
  have hsize := (mainEntry b0).size_bounds
  rw [List.length_append, List.length_drop] at hlen
  simp only [List.length_cons, List.length_nil] at hlen
  rw [Instr.length]
  omega

/-! ## Decoding gives back what an entry holds -/

theorem decode_encode_op (h : mainEntry op = .op i) : decode (encode i) = .ok (i, []) := by
  have henc := mainEntry_encodesAs op
  rw [h] at henc
  rw [henc.1]
  exact decode_op h

theorem decode_encode_imm8 {f : Byte → Instr} (h : mainEntry op = .imm8 f) (v : Byte) : decode (encode (f v)) = .ok (f v, []) := by
  have henc := mainEntry_encodesAs op
  rw [h] at henc
  rw [(henc v).1]
  exact decode_imm8 h

theorem decode_encode_imm16 {f : Word → Instr} (h : mainEntry op = .imm16 f) (w : Word) : decode (encode (f w)) = .ok (f w, []) := by
  have henc := mainEntry_encodesAs op
  rw [h] at henc
  rw [(henc w).1, decode_imm16 h, join_hi_lo]

theorem decode_encode_cb (h : cbEntry op2 = i) : decode (encode i) = .ok (i, []) := by
  rw [← h, (encode_cbEntry op2).1]
  exact decode_cb mainEntry_cb

/-! ## The main table by the fields of its bytes (R168) -/

section

variable (q r : Reg8) (p : Pair) (sp : StackPair) (o : AluOp) (k : Cond) (y : Fin 8)

theorem mainEntry_ldReg : mainEntry (1#2 ++ q.code ++ r.code) = .op (.ldReg q r) := by cases q <;> cases r <;> rfl
theorem mainEntry_ldFromHL : mainEntry (1#2 ++ r.code ++ 6#3) = .op (.ldFromHL r) := by cases r <;> rfl
theorem mainEntry_ldToHL : mainEntry (1#2 ++ 6#3 ++ r.code) = .op (.ldToHL r) := by cases r <;> rfl
theorem mainEntry_ldImm : mainEntry (0#2 ++ r.code ++ 6#3) = .imm8 (.ldImm r) := by cases r <;> rfl
theorem mainEntry_incReg : mainEntry (0#2 ++ r.code ++ 4#3) = .op (.incReg r) := by cases r <;> rfl
theorem mainEntry_decReg : mainEntry (0#2 ++ r.code ++ 5#3) = .op (.decReg r) := by cases r <;> rfl
theorem mainEntry_aluReg : mainEntry (2#2 ++ o.code ++ r.code) = .op (.aluReg o r) := by cases o <;> cases r <;> rfl
theorem mainEntry_aluHL : mainEntry (2#2 ++ o.code ++ 6#3) = .op (.aluHL o) := by cases o <;> rfl
theorem mainEntry_aluImm : mainEntry (3#2 ++ o.code ++ 6#3) = .imm8 (.aluImm o) := by cases o <;> rfl
theorem mainEntry_ldPair : mainEntry (0#2 ++ p.code ++ 1#4) = .imm16 (.ldPair p) := by cases p <;> rfl
theorem mainEntry_incPair : mainEntry (0#2 ++ p.code ++ 3#4) = .op (.incPair p) := by cases p <;> rfl
theorem mainEntry_addHL : mainEntry (0#2 ++ p.code ++ 9#4) = .op (.addHL p) := by cases p <;> rfl
theorem mainEntry_decPair : mainEntry (0#2 ++ p.code ++ 11#4) = .op (.decPair p) := by cases p <;> rfl
theorem mainEntry_pop : mainEntry (3#2 ++ sp.code ++ 1#4) = .op (.pop sp) := by cases sp <;> rfl
theorem mainEntry_push : mainEntry (3#2 ++ sp.code ++ 5#4) = .op (.push sp) := by cases sp <;> rfl
theorem mainEntry_jrCond : mainEntry (1#3 ++ k.code ++ 0#3) = .imm8 (.jrCond k) := by cases k <;> rfl
theorem mainEntry_retCond : mainEntry (6#3 ++ k.code ++ 0#3) = .op (.retCond k) := by cases k <;> rfl
theorem mainEntry_jpCond : mainEntry (6#3 ++ k.code ++ 2#3) = .imm16 (.jpCond k) := by cases k <;> rfl
theorem mainEntry_callCond : mainEntry (6#3 ++ k.code ++ 4#3) = .imm16 (.callCond k) := by cases k <;> rfl
theorem mainEntry_rst : mainEntry (3#2 ++ BitVec.ofFin (w := 3) y ++ 7#3) = .op (.rst y) := by fin_cases y <;> rfl

end

/-- The byte of an unrecognized opcode (R170). -/
def Illegal.byte : Illegal → Byte
  | .d3 => 0xD3 | .db => 0xDB | .dd => 0xDD | .e3 => 0xE3 | .e4 => 0xE4 | .eb => 0xEB | .ec => 0xEC | .ed => 0xED
  | .f4 => 0xF4 | .fc => 0xFC | .fd => 0xFD

theorem mainEntry_illegal (x : Illegal) : mainEntry x.byte = .op (.illegal x) := by cases x <;> rfl

/-! ## The CB table by the fields of its bytes (R169) -/

section

variable (o : RotOp) (r : Reg8) (y : Fin 8)

theorem cbEntry_rotReg : cbEntry (0#2 ++ o.code ++ r.code) = .rotReg o r := by cases o <;> cases r <;> rfl
theorem cbEntry_rotHL : cbEntry (0#2 ++ o.code ++ 6#3) = .rotHL o := by cases o <;> rfl
theorem cbEntry_bitReg : cbEntry (1#2 ++ BitVec.ofFin (w := 3) y ++ r.code) = .bitReg y r := by fin_cases y <;> cases r <;> rfl
theorem cbEntry_bitHL : cbEntry (1#2 ++ BitVec.ofFin (w := 3) y ++ 6#3) = .bitHL y := by fin_cases y <;> rfl
theorem cbEntry_resReg : cbEntry (2#2 ++ BitVec.ofFin (w := 3) y ++ r.code) = .resReg y r := by fin_cases y <;> cases r <;> rfl
theorem cbEntry_resHL : cbEntry (2#2 ++ BitVec.ofFin (w := 3) y ++ 6#3) = .resHL y := by fin_cases y <;> rfl
theorem cbEntry_setReg : cbEntry (3#2 ++ BitVec.ofFin (w := 3) y ++ r.code) = .setReg y r := by fin_cases y <;> cases r <;> rfl
theorem cbEntry_setHL : cbEntry (3#2 ++ BitVec.ofFin (w := 3) y ++ 6#3) = .setHL y := by fin_cases y <;> rfl

end

/-! ## Decoding an encoded instruction -/

/-- Every well-formed instruction stands in one of the two tables, by the fields of its family's encoding. -/
theorem decode_encode (i : Instr) : i.wellFormed = true → decode (encode i) = .ok (i, []) := by
  revert i
  refine Instr.byFamily ?ldReg ?ldImm ?ldFromHL ?ldToHL ?aluReg ?aluHL ?aluImm ?incReg ?decReg ?ldPair ?incPair ?decPair ?addHL ?push
    ?pop ?jpCond ?jrCond ?callCond ?retCond ?rst ?illegal ?rotReg ?rotHL ?bitReg ?bitHL ?resReg ?resHL ?setReg ?setHL
    ?ldAtA16SP ?stop ?jrE8 ?ldAtHLD8 ?jpA16 ?bareCb ?callA16 ?ldhAtA8A ?addSPE8 ?ldAtA16A ?ldhAAtA8 ?ldHLSPE8 ?ldAAtA16
    ?nop ?ldAtBCA ?rlca ?ldAAtBC ?rrca ?ldAtDEA ?rla ?ldAAtDE ?rra ?ldAtHLIncA ?daa ?ldAAtHLInc ?cpl ?ldAtHLDecA
    ?incAtHL ?decAtHL ?scf ?ldAAtHLDec ?ccf ?halt ?ret ?reti ?ldAtCA ?jpHL ?ldAAtC ?di ?ldSPHL ?ei
  case bareCb => exact fun _ h => Bool.noConfusion h
  -- the families of the main table
  case ldReg => exact fun q r _ => decode_encode_op (mainEntry_ldReg q r)
  case ldImm => exact fun r v _ => decode_encode_imm8 (mainEntry_ldImm r) v
  case ldFromHL => exact fun r _ => decode_encode_op (mainEntry_ldFromHL r)
  case ldToHL => exact fun r _ => decode_encode_op (mainEntry_ldToHL r)
  case aluReg => exact fun o r _ => decode_encode_op (mainEntry_aluReg r o)
  case aluHL => exact fun o _ => decode_encode_op (mainEntry_aluHL o)
  case aluImm => exact fun o v _ => decode_encode_imm8 (mainEntry_aluImm o) v
  case incReg => exact fun r _ => decode_encode_op (mainEntry_incReg r)
  case decReg => exact fun r _ => decode_encode_op (mainEntry_decReg r)
  case ldPair => exact fun p w _ => decode_encode_imm16 (mainEntry_ldPair p) w
  case incPair => exact fun p _ => decode_encode_op (mainEntry_incPair p)
  case decPair => exact fun p _ => decode_encode_op (mainEntry_decPair p)
  case addHL => exact fun p _ => decode_encode_op (mainEntry_addHL p)
  case push => exact fun p _ => decode_encode_op (mainEntry_push p)
  case pop => exact fun p _ => decode_encode_op (mainEntry_pop p)
  case jpCond => exact fun k w _ => decode_encode_imm16 (mainEntry_jpCond k) w
  case jrCond => exact fun k v _ => decode_encode_imm8 (mainEntry_jrCond k) v
  case callCond => exact fun k w _ => decode_encode_imm16 (mainEntry_callCond k) w
  case retCond => exact fun k _ => decode_encode_op (mainEntry_retCond k)
  case rst => exact fun y _ => decode_encode_op (mainEntry_rst y)
  case illegal => exact fun x _ => decode_encode_op (mainEntry_illegal x)
  -- the families of the CB table
  case rotReg => exact fun o r _ => decode_encode_cb (cbEntry_rotReg o r)
  case rotHL => exact fun o _ => decode_encode_cb (cbEntry_rotHL o)
  case bitReg => exact fun b r _ => decode_encode_cb (cbEntry_bitReg r b)
  case bitHL => exact fun b _ => decode_encode_cb (cbEntry_bitHL b)
  case resReg => exact fun b r _ => decode_encode_cb (cbEntry_resReg r b)
  case resHL => exact fun b _ => decode_encode_cb (cbEntry_resHL b)
  case setReg => exact fun b r _ => decode_encode_cb (cbEntry_setReg r b)
  case setHL => exact fun b _ => decode_encode_cb (cbEntry_setHL b)
  -- the main table's other bytes, with operand bytes
  case ldAtA16SP => exact fun w _ => decode_encode_imm16 (op := 0x08) rfl w
  case stop => exact fun v _ => decode_encode_imm8 (op := 0x10) rfl v
  case jrE8 => exact fun v _ => decode_encode_imm8 (op := 0x18) rfl v
  case ldAtHLD8 => exact fun v _ => decode_encode_imm8 (op := 0x36) rfl v
  case jpA16 => exact fun w _ => decode_encode_imm16 (op := 0xC3) rfl w
  case callA16 => exact fun w _ => decode_encode_imm16 (op := 0xCD) rfl w
  case ldhAtA8A => exact fun v _ => decode_encode_imm8 (op := 0xE0) rfl v
  case addSPE8 => exact fun v _ => decode_encode_imm8 (op := 0xE8) rfl v
  case ldAtA16A => exact fun w _ => decode_encode_imm16 (op := 0xEA) rfl w
  case ldhAAtA8 => exact fun v _ => decode_encode_imm8 (op := 0xF0) rfl v
  case ldHLSPE8 => exact fun v _ => decode_encode_imm8 (op := 0xF8) rfl v
  case ldAAtA16 => exact fun w _ => decode_encode_imm16 (op := 0xFA) rfl w
  -- and without
  case nop => exact fun _ => decode_encode_op (op := 0x00) rfl
  case ldAtBCA => exact fun _ => decode_encode_op (op := 0x02) rfl
  case rlca => exact fun _ => decode_encode_op (op := 0x07) rfl
  case ldAAtBC => exact fun _ => decode_encode_op (op := 0x0A) rfl
  case rrca => exact fun _ => decode_encode_op (op := 0x0F) rfl
  case ldAtDEA => exact fun _ => decode_encode_op (op := 0x12) rfl
  case rla => exact fun _ => decode_encode_op (op := 0x17) rfl
  case ldAAtDE => exact fun _ => decode_encode_op (op := 0x1A) rfl
  case rra => exact fun _ => decode_encode_op (op := 0x1F) rfl
  case ldAtHLIncA => exact fun _ => decode_encode_op (op := 0x22) rfl
  case daa => exact fun _ => decode_encode_op (op := 0x27) rfl
  case ldAAtHLInc => exact fun _ => decode_encode_op (op := 0x2A) rfl
  case cpl => exact fun _ => decode_encode_op (op := 0x2F) rfl
  case ldAtHLDecA => exact fun _ => decode_encode_op (op := 0x32) rfl
  case incAtHL => exact fun _ => decode_encode_op (op := 0x34) rfl
  case decAtHL => exact fun _ => decode_encode_op (op := 0x35) rfl
  case scf => exact fun _ => decode_encode_op (op := 0x37) rfl
  case ldAAtHLDec => exact fun _ => decode_encode_op (op := 0x3A) rfl
  case ccf => exact fun _ => decode_encode_op (op := 0x3F) rfl
  case halt => exact fun _ => decode_encode_op (op := 0x76) rfl
  case ret => exact fun _ => decode_encode_op (op := 0xC9) rfl
  case reti => exact fun _ => decode_encode_op (op := 0xD9) rfl
  case ldAtCA => exact fun _ => decode_encode_op (op := 0xE2) rfl
  case jpHL => exact fun _ => decode_encode_op (op := 0xE9) rfl
  case ldAAtC => exact fun _ => decode_encode_op (op := 0xF2) rfl
  case di => exact fun _ => decode_encode_op (op := 0xF3) rfl
  case ldSPHL => exact fun _ => decode_encode_op (op := 0xF9) rfl
  case ei => exact fun _ => decode_encode_op (op := 0xFB) rfl

end Sys2Proof

/-! ## The CB-table entry and its meaning (R376) -/

namespace Sys2Proof.Machine

/-- The CB-table instruction of the three fields, `k` the operand of the third (R169). -/
def cbInstr (x : BitVec 2) (y : BitVec 3) (k : Operand8) : Instr :=
  match x with
  | 0 => (ModifyOp.rot (rotOfCode y)).instr k
  | 1 => match k with
    | .reg r => .bitReg y.toFin r
    | .atHL => .bitHL y.toFin
  | 2 => (ModifyOp.res y.toFin).instr k
  | 3 => (ModifyOp.set y.toFin).instr k

theorem cbEntry_eq : ∀ op2 : Byte, cbEntry op2 = cbInstr (field op2 6 2) (field op2 3 3) (operandOfCode (field op2 0 3)) := by
  decide +kernel

theorem exec_rot (o : RotOp) (k : Operand8) (s : State) : exec ((ModifyOp.rot o).instr k) s = .next (rotateOperand o k s) := by
  cases k with
  | reg r => exact exec_rotReg ..
  | atHL => exact exec_rotHL ..

theorem exec_res (b : Fin 8) (k : Operand8) (s : State) : exec ((ModifyOp.res b).instr k) s = .next (clearBit b k s) := by
  cases k with
  | reg r => exact exec_resReg ..
  | atHL => exact exec_resHL ..

theorem exec_set (b : Fin 8) (k : Operand8) (s : State) : exec ((ModifyOp.set b).instr k) s = .next (setBitOf b k s) := by
  cases k with
  | reg r => exact exec_setReg ..
  | atHL => exact exec_setHL ..

/-- The entry of the byte after 0xCB does what the 0xCB row does with that byte. -/
theorem exec_cbEntry (op2 : Byte) (s : State) : exec (cbEntry op2) s = .next (cbOperation op2 s) := by
  rw [cbEntry_eq]
  unfold cbOperation
  generalize operandOfCode (field op2 0 3) = k
  generalize field op2 3 3 = y
  match field op2 6 2 with
  | 0 => exact exec_rot ..
  | 1 =>
    cases k with
    | reg r => exact exec_bitReg ..
    | atHL => exact exec_bitHL ..
  | 2 => exact exec_res ..
  | 3 => exact exec_set ..

end Sys2Proof.Machine

namespace Sys2Proof.Proofs

open Sys2Proof Sys2Proof.Machine

/-- Settles O1, by the main table's entry of each byte. -/
theorem mainTableDecodes : Obligations.MainTableDecodes := by
  unfold Obligations.MainTableDecodes
  refine ⟨fun q r => decode_op (mainEntry_ldReg q r), fun r => ⟨decode_op (mainEntry_ldFromHL r), decode_op (mainEntry_ldToHL r),
      decode_op (mainEntry_incReg r), decode_op (mainEntry_decReg r)⟩, fun r v => decode_imm8 (mainEntry_ldImm r),
    fun o r => decode_op (mainEntry_aluReg r o), fun o v => ⟨decode_op (mainEntry_aluHL o), decode_imm8 (mainEntry_aluImm o)⟩,
    fun p lo hi => ⟨decode_imm16 (mainEntry_ldPair p), decode_op (mainEntry_incPair p), decode_op (mainEntry_addHL p),
      decode_op (mainEntry_decPair p)⟩, fun p => ⟨decode_op (mainEntry_pop p), decode_op (mainEntry_push p)⟩,
    fun k lo hi e => ⟨decode_imm8 (mainEntry_jrCond k), decode_op (mainEntry_retCond k), decode_imm16 (mainEntry_jpCond k),
      decode_imm16 (mainEntry_callCond k)⟩, fun y => decode_op (mainEntry_rst y), fun lo hi => ?others,
    decode_op (mainEntry_illegal .d3), decode_op (mainEntry_illegal .db), decode_op (mainEntry_illegal .dd),
    decode_op (mainEntry_illegal .e3), decode_op (mainEntry_illegal .e4), decode_op (mainEntry_illegal .eb),
    decode_op (mainEntry_illegal .ec), decode_op (mainEntry_illegal .ed), decode_op (mainEntry_illegal .f4),
    decode_op (mainEntry_illegal .fc), decode_op (mainEntry_illegal .fd)⟩
  case others => and_intros <;> rfl

/-- Settles O2, by the CB table's entry of each byte. -/
theorem cbTableDecodes : Obligations.CbTableDecodes := by
  unfold Obligations.CbTableDecodes
  simp only [decode_cb mainEntry_cb, cbEntry_rotReg, cbEntry_rotHL, cbEntry_bitReg, cbEntry_bitHL, cbEntry_resReg, cbEntry_resHL,
    cbEntry_setReg, cbEntry_setHL, and_self, implies_true]

/-- Settles O3: the bytes of an instruction decode to it with nothing left over, and what follows them stays. -/
theorem decodeOfEncode : Obligations.DecodeOfEncode := by
  unfold Obligations.DecodeOfEncode
  exact fun i rest hwf => decode_append (decode_encode i hwf)

/-- Settles O4: the first byte's entry fixes the format, and every entry encodes as the bytes that select it. -/
theorem decodingIsTotal : Obligations.DecodingIsTotal := by
  unfold Obligations.DecodingIsTotal
  refine ⟨fun b0 b1 b2 rest => ⟨(mainEntry b0).instr b1 b2, ?_⟩, fun bytes rest i h => encode_of_decode h⟩
  rw [length_instr]
  refine ⟨decode_three, (mainEntry b0).size_bounds.1, (mainEntry b0).size_bounds.2, ?cb, fun c1 c2 j tail h => ?fixed⟩
  case cb =>
    rintro rfl
    rw [mainEntry_cb, Entry.size]
  case fixed =>
    rw [decode_three] at h
    cases h
    exact length_instr

/-- Settles O31. -/
theorem prefixExecutesEntry : Obligations.PrefixExecutesEntry := by
  unfold Obligations.PrefixExecutesEntry
  exact fun op2 s => ⟨cbEntry op2, cbOperation op2 s, decode_cb mainEntry_cb, exec_prefixCb s op2, exec_cbEntry op2 s⟩

end Sys2Proof.Proofs
end

section
/-! The interrupt phase and the timers (R403 to R412): each case of the phase, the timers' counts, and the statements about them. -/

namespace Sys2Proof.Machine

variable {s : State} {v w : Byte} {k n c d : Nat}

/-! ## Changes of the engine -/

theorem State.mapEngine_of_eq {g : Engine → Engine} (h : g s.engine = s.engine) : s.mapEngine g = s := by
  unfold State.mapEngine; rw [h]

/-! ## The cases of the interrupt phase (R403) -/

/-- A stopped CPU tests the joypad bit alone. -/
theorem interruptPhase_stopped (hs : s.engine.stopped = true) :
    s.interruptPhase = (s.mapEngine (fun g => { g with stopped := !s.ifByte.getLsbD 4 }), 0) := by
  unfold State.interruptPhase
  rw [if_pos hs]
  split
  · next h => rw [h]; rfl
  · next h =>
    have hkeep : s.mapEngine (fun g => { g with stopped := true }) = s := State.mapEngine_of_eq (by rw [← hs])
    rw [Bool.eq_false_iff.mpr h, Bool.not_false, hkeep]

/-- A pending enable is completed, and nothing is serviced. -/
theorem interruptPhase_enabling (hs : s.engine.stopped = false) (he : s.engine.imeEnabling = true) :
    s.interruptPhase = (s.mapEngine (fun g => { g with ime := true, imeEnabling := false }), 0) := by
  unfold State.interruptPhase
  rw [hs, he]
  rfl

/-- A byte with no bit among the five sources. -/
theorem and_1F_eq_zero_iff : ∀ w : Byte, w &&& 0x1F = 0 ↔
    w.getLsbD 0 = false ∧ w.getLsbD 1 = false ∧ w.getLsbD 2 = false ∧ w.getLsbD 3 = false ∧ w.getLsbD 4 = false := by
  decide +kernel

/-- There is a source to service exactly when one is requested and enabled. -/
theorem pendingSource_eq_none_iff : s.pendingSource = none ↔ s.ifByte &&& s.ieByte &&& 0x1F = 0 := by
  rw [and_1F_eq_zero_iff]
  simp [State.pendingSource, IntSource.all, IntSource.bit, List.find?_eq_none]

theorem ifByte_ne_zero_of_pending (h : s.ifByte &&& s.ieByte &&& 0x1F ≠ 0) : s.ifByte ≠ 0 := by
  intro h0
  apply h
  rw [h0]
  exact (congrArg (· &&& (0x1F : Byte)) BitVec.zero_and).trans BitVec.zero_and

/-- A halted CPU with IME clear only wakes. -/
theorem interruptPhase_wakes (hs : s.engine.stopped = false) (he : s.engine.imeEnabling = false) (hi : s.engine.ime = false)
    (hh : s.engine.halted = true) (hp : s.ifByte &&& s.ieByte &&& 0x1F ≠ 0) :
    s.interruptPhase = (s.mapEngine (fun g => { g with halted := false }), 0) := by
  obtain ⟨x, hx⟩ := Option.ne_none_iff_exists'.mp (mt pendingSource_eq_none_iff.mp hp)
  unfold State.interruptPhase
  rw [hs, he, hi, hh, hx, bne_iff_ne.mpr (ifByte_ne_zero_of_pending hp)]
  rfl

/-- With IME and `halted` clear, or nothing requested and enabled, nothing happens. -/
theorem interruptPhase_idle (hs : s.engine.stopped = false) (he : s.engine.imeEnabling = false)
    (h : (s.engine.ime = false ∧ s.engine.halted = false) ∨ s.ifByte &&& s.ieByte &&& 0x1F = 0) : s.interruptPhase = (s, 0) := by
  unfold State.interruptPhase
  rw [hs, he, if_neg Bool.false_ne_true, if_neg Bool.false_ne_true]
  rcases h with ⟨hi, hh⟩ | hp
  · rw [hi, hh]; rfl
  · rw [pendingSource_eq_none_iff.mpr hp, ite_self]

/-- The source to service is the lowest one requested and enabled (R404). -/
theorem pendingSource_of_lowest {x : IntSource} (hif : s.ifByte.getLsbD x.bit = true) (hie : s.ieByte.getLsbD x.bit = true)
    (hlow : ∀ m < x.bit, s.ifByte.getLsbD m = false ∨ s.ieByte.getLsbD m = false) : s.pendingSource = some x := by
  have hnot : ∀ y : IntSource, y.bit < x.bit → (s.ifByte.getLsbD y.bit && s.ieByte.getLsbD y.bit) = false := fun y hy =>
    Bool.and_eq_false_iff.mpr (hlow y.bit hy)
  have hx : (s.ifByte.getLsbD x.bit && s.ieByte.getLsbD x.bit) = true := Bool.and_eq_true_iff.mpr ⟨hif, hie⟩
  unfold State.pendingSource IntSource.all
  cases x with
  | vblank => simp [List.find?, hx]
  | lcdStat => simp [List.find?, hx, hnot .vblank (by decide)]
  | timer => simp [List.find?, hx, hnot .vblank (by decide), hnot .lcdStat (by decide)]
  | serial => simp [List.find?, hx, hnot .vblank (by decide), hnot .lcdStat (by decide), hnot .timer (by decide)]
  | joypad =>
    simp [List.find?, hx, hnot .vblank (by decide), hnot .lcdStat (by decide), hnot .timer (by decide), hnot .serial (by decide)]

theorem exists_source_of_bit (h : n < 5) : ∃ x : IntSource, x.bit = n := by
  interval_cases n
  · exact ⟨.vblank, rfl⟩
  · exact ⟨.lcdStat, rfl⟩
  · exact ⟨.timer, rfl⟩
  · exact ⟨.serial, rfl⟩
  · exact ⟨.joypad, rfl⟩

/-- With IME set the pending source is taken. -/
theorem interruptPhase_dispatch {x : IntSource} (hs : s.engine.stopped = false) (he : s.engine.imeEnabling = false)
    (hi : s.engine.ime = true) (hx : s.pendingSource = some x) :
    s.interruptPhase = (s.takeInterrupt x, s.params.intDispatchCycles) := by
  have hif : s.ifByte ≠ 0 := ifByte_ne_zero_of_pending (mt pendingSource_eq_none_iff.mpr (by rw [hx]; exact Option.some_ne_none x))
  unfold State.interruptPhase
  rw [hs, he, hi, hx, bne_iff_ne.mpr hif]
  cases s.engine.halted <;> rfl

/-- Taking an interrupt (R405): the IF bit cleared, PC pushed by two bus writes, then PC at the vector. -/
theorem takeInterrupt_eq (x : IntSource) : s.takeInterrupt x =
    { ((s.setIo 0x0F (s.ifByte &&& ~~~(1#8 <<< x.bit))).busWrite (s.cpu.sp - 1) (hiByte s.cpu.pc)).busWrite
        (s.cpu.sp - 2) (loByte s.cpu.pc) with
      cpu := { s.cpu with sp := s.cpu.sp - 2, pc := x.vector },
      engine := { s.engine with ime := false, halted := false } } := by
  have hu : ∀ v : Byte, (s.mapEngine fun g => { g with ime := false, halted := false }).setIo 0x0F v =
      (s.setIo 0x0F v).mapEngine fun g => { g with ime := false, halted := false } := fun _ => rfl
  unfold State.takeInterrupt
  dsimp only
  rw [hu, push16_eq, busWrite_mapEngine, busWrite_mapEngine]
  rfl

/-! ## The divider (R411) -/

/-- The state with another timer state. -/
def State.setTimer (s : State) (x : Timer) : State := { s with timer := x }

@[simp] theorem State.setTimer_timer (s : State) (x : Timer) : (s.setTimer x).timer = x := rfl

@[simp] theorem State.setTimer_setTimer (s : State) (x y : Timer) : (s.setTimer x).setTimer y = s.setTimer y := rfl

theorem divTick_eq (c : Nat) : s.divTick c =
    (s.setIo 0x04 (s.ioByte 0x04 + BitVec.ofNat 8 ((s.timer.divAcc + c) / s.params.divPeriod))).setTimer
      { s.timer with divAcc := (s.timer.divAcc + c) % s.params.divPeriod } := rfl

/-! ## The selectable timer (R412) -/

theorem timaTick_disabled (h : (s.ioByte 0x07).getLsbD 2 = false) (c : Nat) : s.timaTick c = s := by
  unfold State.timaTick; rw [if_neg (by rw [h]; exact Bool.false_ne_true)]

theorem timaTick_enabled (h : (s.ioByte 0x07).getLsbD 2 = true) (c : Nat) : s.timaTick c =
    State.timaIncrements ((s.timer.timerAcc + c) / s.timer.threshold.cycles)
      (s.setTimer { s.timer with timerAcc := (s.timer.timerAcc + c) % s.timer.threshold.cycles }) := by
  unfold State.timaTick; rw [if_pos h]; rfl

theorem timaIncrement_of_ne (h : s.ioByte 0x05 ≠ 0xFF) : s.timaIncrement = s.setIo 0x05 (s.ioByte 0x05 + 1) := by
  unfold State.timaIncrement; rw [if_neg h]

/-- The overflow: the reload from TMA, and bit 2 of IF set. -/
theorem timaIncrement_overflow (h : s.ioByte 0x05 = 0xFF) :
    s.timaIncrement = (s.setIo 0x05 (s.ioByte 0x06)).setIo 0x0F (s.ifByte ||| 0x04) := by
  have hif : (s.setIo 0x05 (s.ioByte 0x06)).ifByte = s.ifByte := ioByte_setIo_ne (by decide)
  unfold State.timaIncrement State.request
  rw [if_pos h, hif]
  rfl

/-! ## The timers in two parts -/

/-- The full periods and the rest of `a + c` cycles, then of `d` more, are those of all of them. -/
theorem div_mod_add_add (a c d p : Nat) (hp : 0 < p) :
    (a + c) / p + ((a + c) % p + d) / p = (a + (c + d)) / p ∧ ((a + c) % p + d) % p = (a + (c + d)) % p := by
  rw [← Nat.add_assoc, Nat.mod_add_mod]
  refine ⟨?_, rfl⟩
  conv_rhs => rw [← Nat.div_add_mod' (a + c) p, Nat.add_assoc, Nat.add_comm, Nat.add_mul_div_right _ _ hp]
  exact Nat.add_comm _ _

theorem setIo_setIo_same (hm : Memory.wf ramFill 0x100 s.io = true) (hk : k < 0x100) : (s.setIo k v).setIo k w = s.setIo k w := by
  unfold State.setIo
  rw [Memory.set_set hm hk]

theorem setIo_comm {j : Nat} (hm : Memory.wf ramFill 0x100 s.io = true) (hj : j < 0x100) (hk : k < 0x100) (hne : j ≠ k) :
    (s.setIo j v).setIo k w = (s.setIo k w).setIo j v := by
  unfold State.setIo
  rw [Memory.set_comm hm hj hk hne]

theorem divTick_add (hm : Memory.wf ramFill 0x100 s.io = true) (hp : 0 < s.params.divPeriod) :
    (s.divTick c).divTick d = s.divTick (c + d) := by
  obtain ⟨hdiv, hmod⟩ := div_mod_add_add s.timer.divAcc c d _ hp
  unfold State.divTick State.ioByte State.setIo
  dsimp only
  rw [Memory.get_set_same hm, Memory.set_set hm (by decide), BitVec.add_assoc, ← BitVec.ofNat_add, hdiv, hmod]

theorem timaIncrements_add (m n : Nat) : State.timaIncrements n (State.timaIncrements m s) = State.timaIncrements (m + n) s := by
  induction m generalizing s with
  | zero => rw [Nat.zero_add]; rfl
  | succ m ih => rw [Nat.add_right_comm]; exact ih

/-- No increment reads or writes the timer's hidden state. -/
theorem timaIncrement_setTimer (x : Timer) : (s.setTimer x).timaIncrement = s.timaIncrement.setTimer x := by
  by_cases h : s.ioByte 0x05 = 0xFF
  · rw [timaIncrement_overflow h, timaIncrement_overflow (s := s.setTimer x) h]; rfl
  · rw [timaIncrement_of_ne h, timaIncrement_of_ne (s := s.setTimer x) h]; rfl

theorem timaIncrements_setTimer (x : Timer) :
    State.timaIncrements n (s.setTimer x) = (State.timaIncrements n s).setTimer x := by
  induction n generalizing s with
  | zero => rfl
  | succ n ih => rw [State.timaIncrements, State.timaIncrements, timaIncrement_setTimer, ih]

theorem timaTick_add : (s.timaTick c).timaTick d = s.timaTick (c + d) := by
  by_cases hon : (s.ioByte 0x07).getLsbD 2 = true
  · obtain ⟨hdiv, hmod⟩ := div_mod_add_add s.timer.timerAcc c d _ s.timer.threshold.cycles_pos
    have htac : ∀ n x, (State.timaIncrements n (s.setTimer x)).ioByte 0x07 = s.ioByte 0x07 := fun n x =>
      ioByte_timaIncrements (by decide) (by decide)
    rw [timaTick_enabled hon, timaTick_enabled hon, timaTick_enabled (by rw [htac]; exact hon)]
    simp only [timaIncrements_setTimer, timaIncrements_add, State.setTimer_timer, State.setTimer_setTimer, hdiv, hmod]
  · have hoff := Bool.eq_false_iff.mpr hon
    rw [timaTick_disabled hoff, timaTick_disabled hoff, timaTick_disabled hoff]

/-- The parts of one increment keep the I/O file canonical. -/
theorem wf_timaIncrement (hm : Memory.wf ramFill 0x100 s.io = true) : Memory.wf ramFill 0x100 s.timaIncrement.io = true := by
  by_cases h : s.ioByte 0x05 = 0xFF
  · rw [timaIncrement_overflow h]; exact Memory.wf_set (Memory.wf_set hm (by decide)) (by decide)
  · rw [timaIncrement_of_ne h]; exact Memory.wf_set hm (by decide)

/-- An increment touches neither DIV nor what it holds. -/
theorem timaIncrement_setDiv (hm : Memory.wf ramFill 0x100 s.io = true) :
    (s.setIo 0x04 v).timaIncrement = s.timaIncrement.setIo 0x04 v := by
  have hread : ∀ j, j ≠ 0x04 → (s.setIo 0x04 v).ioByte j = s.ioByte j := fun j hj => ioByte_setIo_ne hj
  by_cases h : s.ioByte 0x05 = 0xFF
  · rw [timaIncrement_overflow h, timaIncrement_overflow ((hread 0x05 (by decide)).trans h), State.ifByte, State.ifByte,
      hread 0x06 (by decide), hread 0x0F (by decide), setIo_comm hm (by decide) (by decide) (by decide),
      setIo_comm (Memory.wf_set hm (by decide)) (by decide) (by decide) (by decide)]
  · rw [timaIncrement_of_ne h, timaIncrement_of_ne (by rw [hread 0x05 (by decide)]; exact h), hread 0x05 (by decide),
      setIo_comm hm (by decide) (by decide) (by decide)]

theorem timaIncrements_setDiv (hm : Memory.wf ramFill 0x100 s.io = true) :
    State.timaIncrements n (s.setIo 0x04 v) = (State.timaIncrements n s).setIo 0x04 v := by
  induction n generalizing s with
  | zero => rfl
  | succ n ih => rw [State.timaIncrements, State.timaIncrements, timaIncrement_setDiv hm, ih (wf_timaIncrement hm)]

theorem params_timaIncrements : (State.timaIncrements n s).params = s.params :=
  (congrArg State.params (offTimer_timaIncrements (s := s) (n := n)) :)

/-- The divider's phase and the selectable timer's do not touch each other. -/
theorem divTick_timaTick (hm : Memory.wf ramFill 0x100 s.io = true) : (s.timaTick c).divTick d = (s.divTick d).timaTick c := by
  have htac : (s.divTick d).ioByte 0x07 = s.ioByte 0x07 := ioByte_setIo_ne (by decide)
  by_cases hon : (s.ioByte 0x07).getLsbD 2 = true
  · have hdiv : ∀ n, (State.timaIncrements n s).ioByte 0x04 = s.ioByte 0x04 := fun n => ioByte_timaIncrements (by decide) (by decide)
    rw [timaTick_enabled hon, timaTick_enabled (htac.symm ▸ hon), timaIncrements_setTimer, timaIncrements_setTimer]
    generalize hn : (s.timer.timerAcc + c) / s.timer.threshold.cycles = n
    rw [show ((s.divTick d).timer.timerAcc + c) / (s.divTick d).timer.threshold.cycles = n from hn, divTick_eq (s := s),
      timaIncrements_setTimer, timaIncrements_setDiv hm, divTick_eq, ← hdiv n, ← params_timaIncrements (n := n) (s := s)]
    rfl
  · have hoff := Bool.eq_false_iff.mpr hon
    rw [timaTick_disabled hoff, timaTick_disabled (htac.symm ▸ hoff)]

theorem wf_divTick (hm : Memory.wf ramFill 0x100 s.io = true) : Memory.wf ramFill 0x100 (s.divTick c).io = true :=
  Memory.wf_set hm (by decide)

theorem timerTick_add (hm : Memory.wf ramFill 0x100 s.io = true) (hp : 0 < s.params.divPeriod) :
    (s.timerTick c).timerTick d = s.timerTick (c + d) := by
  unfold State.timerTick
  rw [divTick_timaTick (wf_divTick hm), divTick_add hm hp, timaTick_add]

end Sys2Proof.Machine

namespace Sys2Proof.Proofs

open Sys2Proof Sys2Proof.Machine

/-- Settles O50: the lowest source is the pending one, and taking it is two bus writes after IF's. -/
theorem interruptDispatch : Obligations.InterruptDispatch := by
  unfold Obligations.InterruptDispatch
  intro s n hs he hi hn hif hie hlow
  obtain ⟨x, rfl⟩ := exists_source_of_bit hn
  rw [interruptPhase_dispatch hs he hi (pendingSource_of_lowest hif hie hlow), takeInterrupt_eq]
  rfl

/-- Settles O51. -/
theorem interruptPhaseOtherwise : Obligations.InterruptPhaseOtherwise := by
  unfold Obligations.InterruptPhaseOtherwise
  exact fun s => ⟨interruptPhase_stopped, interruptPhase_enabling, interruptPhase_wakes, interruptPhase_idle⟩

/-- Settles O53: the divider counts by quotient and remainder; one cycle of the timer reaches the threshold once or not at all. -/
theorem timersCount : Obligations.TimersCount := by
  unfold Obligations.TimersCount
  intro s
  refine ⟨fun c hacc => ?div, timaTick_disabled, fun hon hlt => ?below, fun hon heq => ?reached⟩
  case div =>
    have hpos : 0 < s.params.divPeriod := Nat.lt_of_le_of_lt (Nat.zero_le _) hacc
    refine ⟨_, _, _, divTick_eq c, (Nat.div_add_mod' _ _).symm, Nat.mod_lt _ hpos, ?_⟩
    rw [BitVec.toNat_add, BitVec.toNat_ofNat, Nat.add_mod_mod]
  case below =>
    rw [timaTick_enabled hon, Nat.div_eq_of_lt hlt, Nat.mod_eq_of_lt hlt]
    rfl
  case reached =>
    have hpos := Threshold.cycles_pos s.timer.threshold
    rw [timaTick_enabled hon, heq, Nat.div_self hpos, Nat.mod_self]
    exact ⟨timaIncrement_of_ne (s := s.setTimer { s.timer with timerAcc := 0 }),
      timaIncrement_overflow (s := s.setTimer { s.timer with timerAcc := 0 })⟩

/-- Settles O54: each timer adds, and the two do not touch each other. -/
theorem timerTickAdds : Obligations.TimerTickAdds := by
  unfold Obligations.TimerTickAdds
  intro s c d hm hp
  simp only [Params.wf, Bool.and_eq_true, decide_eq_true_eq] at hp
  exact timerTick_add (io_wf_of_memoryWf hm) (by tauto)

end Sys2Proof.Proofs
end

section
/-! The fetch (R161), what a step runs, and the steps that wait (R175, R410, R474), with the statements about them. -/

namespace Sys2Proof.Machine

variable {s t : State} {i : Instr} {rest : List Byte} {n c : Nat}

/-! ## The fetch (R161) -/

theorem afterFetch_eq (s : State) : s.afterFetch =
    { s with cpu := { s.cpu with pc := s.cpu.pc + 1 }, draws := (s.noteRead s.cpu.pc).draws } := by
  rw [State.afterFetch, noteRead_eq]; rfl

/-- Fetches move PC and the draw counter alone. -/
theorem fetchN_eq (s : State) (n : Nat) : ∃ d, s.fetchN n =
    { s with cpu := { s.cpu with pc := s.cpu.pc + BitVec.ofNat 16 n }, draws := d } := by
  induction n generalizing s with
  | zero => exact ⟨s.draws, by rw [BitVec.add_zero]; rfl⟩
  | succ n ih =>
    obtain ⟨d, hd⟩ := ih s.afterFetch
    refine ⟨d, hd.trans ?_⟩
    rw [afterFetch_eq, Nat.add_comm n 1, BitVec.ofNat_add, ← BitVec.add_assoc]
    rfl

theorem length_fetchBytes (s : State) (n : Nat) : (s.fetchBytes n).length = n := by
  induction n generalizing s with
  | zero => rfl
  | succ n ih => rw [State.fetchBytes, List.length_cons, ih]

/-- The byte at each place is the one fetched after those before it. -/
theorem getElem?_fetchBytes {k : Nat} (h : k < n) (s : State) : (s.fetchBytes n)[k]? = some (s.fetchN k).fetchByte := by
  induction n generalizing s k with
  | zero => exact absurd h (Nat.not_lt_zero k)
  | succ n ih =>
    cases k with
    | zero => rfl
    | succ k => exact ih (Nat.lt_of_succ_lt_succ h) s.afterFetch

/-- After fetches the byte at PC is the bus's in the state before, where its read is no draw. -/
theorem fetchByte_fetchN (h : s.isDraw (s.cpu.pc + BitVec.ofNat 16 n) = false) :
    (s.fetchN n).fetchByte = s.busRead (s.cpu.pc + BitVec.ofNat 16 n) := by
  obtain ⟨d, hd⟩ := fetchN_eq s n
  have hstate : s.fetchN n = (s.setDraws d).mapCpu fun c => { c with pc := c.pc + BitVec.ofNat 16 n } := hd
  rw [hstate, State.fetchByte, busRead_mapCpu, State.mapCpu_cpu]
  exact busRead_setDraws h

/-! ## The instruction fetched -/

/-- The fetch of an instruction by the entry of its first byte: as many fetches as the entry has bytes. -/
theorem fetchInstr_eq (s : State) : s.fetchInstr =
    ((mainEntry s.fetchByte).instr s.afterFetch.fetchByte s.afterFetch.afterFetch.fetchByte, s.fetchN (mainEntry s.fetchByte).size) := by
  unfold State.fetchInstr
  cases mainEntry s.fetchByte <;> rfl

/-- What is fetched is what the bytes from PC on decode to. -/
theorem fetchInstr_of_decode (h : decode (s.fetchBytes 3) = .ok (i, rest)) : s.fetchInstr = (i, s.fetchN i.length) := by
  obtain ⟨rfl, -⟩ := Prod.mk.inj (Except.ok.inj (decode_three.symm.trans h))
  rw [fetchInstr_eq, length_instr]

/-! ## The step -/

/-- The CPU runs an instruction when it is not stopped, and not halted without a source requested and enabled. -/
theorem runsInstruction_of_awake (hs : s.engine.stopped = false) (hw : s.engine.halted = false ∨ s.ifByte &&& s.ieByte &&& 0x1F ≠ 0) :
    s.runsInstruction = true := by
  unfold State.runsInstruction State.anyPending
  rcases hw with hh | hp
  · rw [hs, hh]; rfl
  · rw [hs, bne_iff_ne.mpr hp, Bool.not_true, Bool.and_false]; rfl

theorem step_of_runs (hr : s.runsInstruction = true) (h : exec s.fetchInstr.1 (s.fetchInstr.2.readyFor s.fetchInstr.1) = .next t) :
    step s = .next t.finishStep := by
  unfold step
  rw [if_pos hr, h]

theorem step_of_waits (hr : s.runsInstruction = false) : step s = .next s.waitQuantum.finishStep := by
  unfold step
  rw [hr]; rfl

/-- The phases after the execute phase, where the interrupt phase charges nothing. -/
theorem finishStep_of_no_charge (h : (s.timerTick s.engine.cycles).interruptPhase = (t, 0)) :
    s.finishStep = t.advanceClock s.engine.cycles := by
  rw [finishStep_eq, h]; rfl

/-! ## The joypad bit of IF in the timer phase -/

/-- A stored byte that is not the one an unlisted offset reads as is read back from any list. -/
theorem Memory.get_set_same_of_ne {fill v : Byte} (hv : v ≠ fill) (m : Memory) (k : Nat) : (m.set fill k v).get fill k = v := by
  have hcell : ∀ m : Memory, (Memory.cons fill k v m).get fill k = v := fun m => by
    rw [Memory.cons, if_neg hv, Memory.get_cons, if_pos rfl]
  induction m with
  | nil => exact hcell []
  | cons kv m ih =>
    obtain ⟨j, w⟩ := kv
    rw [Memory.set]
    split
    · exact hcell _
    · split
      · exact hcell _
      · next hne => rw [Memory.get_cons, if_neg hne, ih]

/-- A timer request sets bit 2 of IF and keeps bit 4. -/
theorem joypadBit_timaIncrement : s.timaIncrement.ifByte.getLsbD 4 = s.ifByte.getLsbD 4 := by
  by_cases h : s.ioByte 0x05 = 0xFF
  · have hne : s.ifByte ||| 0x04 ≠ ramFill := fun h0 => by
      have hbit := congrArg (BitVec.getLsbD · 2) h0
      rw [BitVec.getLsbD_or, show (0x04 : Byte).getLsbD 2 = true from rfl, Bool.or_true] at hbit
      exact Bool.noConfusion hbit
    rw [timaIncrement_overflow h, State.ifByte, State.ioByte, State.setIo, Memory.get_set_same_of_ne hne, BitVec.getLsbD_or]
    exact Bool.or_false _
  · rw [timaIncrement_of_ne h, State.ifByte, ioByte_setIo_ne (by decide)]; rfl

theorem joypadBit_timaIncrements : (State.timaIncrements n s).ifByte.getLsbD 4 = s.ifByte.getLsbD 4 := by
  induction n generalizing s with
  | zero => rfl
  | succ n ih => rw [State.timaIncrements, ih, joypadBit_timaIncrement]

theorem joypadBit_timerTick : (s.timerTick c).ifByte.getLsbD 4 = s.ifByte.getLsbD 4 := by
  have hdiv : (s.divTick c).ifByte = s.ifByte := ioByte_setIo_ne (by decide)
  rw [State.timerTick, ← hdiv]
  by_cases hon : ((s.divTick c).ioByte 0x07).getLsbD 2 = true
  · rw [timaTick_enabled hon, joypadBit_timaIncrements]; rfl
  · rw [timaTick_disabled (Bool.eq_false_iff.mpr hon)]

/-! ## The interrupt phase with IME clear -/

/-- With IME clear and no enable pending the phase can only wake the CPU. -/
theorem interruptPhase_masked (hs : s.engine.stopped = false) (he : s.engine.imeEnabling = false) (hi : s.engine.ime = false) :
    ∃ h : Bool, s.interruptPhase = (s.mapEngine (fun g => { g with halted := h }), 0) := by
  have hkeep : s.mapEngine (fun g => { g with halted := s.engine.halted }) = s := rfl
  by_cases hp : s.ifByte &&& s.ieByte &&& 0x1F = 0
  · exact ⟨s.engine.halted, hkeep.symm ▸ interruptPhase_idle hs he (.inr hp)⟩
  · cases hh : s.engine.halted with
    | true => exact ⟨false, interruptPhase_wakes hs he hi hh hp⟩
    | false => exact ⟨s.engine.halted, hkeep.symm ▸ interruptPhase_idle hs he (.inl ⟨hi, hh⟩)⟩

/-! ## The steps of EI and DI -/

/-- After EI the phase only completes the enable. -/
theorem finishStep_enableInterrupts (hs : s.engine.stopped = false) : (enableInterrupts s).finishStep =
    (((enableInterrupts s).timerTick s.engine.cycles).mapEngine fun g => { g with ime := true, imeEnabling := false }).advanceClock
      s.engine.cycles :=
  finishStep_of_no_charge (interruptPhase_enabling (by rw [timerTick_engine]; exact hs) (by rw [timerTick_engine]; rfl))

/-- After DI the phase can only wake the CPU. -/
theorem finishStep_disableInterrupts (hs : s.engine.stopped = false) : ∃ h : Bool, (disableInterrupts s).finishStep =
    (((disableInterrupts s).timerTick s.engine.cycles).mapEngine fun g => { g with halted := h }).advanceClock s.engine.cycles := by
  obtain ⟨h, hphase⟩ := interruptPhase_masked (s := (disableInterrupts s).timerTick s.engine.cycles)
    (by rw [timerTick_engine]; exact hs) (by rw [timerTick_engine]; rfl) (by rw [timerTick_engine]; rfl)
  exact ⟨h, finishStep_of_no_charge hphase⟩

/-- The state in which a fetched instruction of one byte executes. -/
theorem readyFor_fetchN_one (s : State) (i : Instr) :
    ((s.fetchN 1).readyFor i).cpu = { s.cpu with pc := s.cpu.pc + 1 } ∧
    ((s.fetchN 1).readyFor i).engine = { s.engine with cycles := baseCycles s.params i } := by
  obtain ⟨d, hd⟩ := fetchN_eq s 1
  rw [hd]
  exact ⟨rfl, rfl⟩

end Sys2Proof.Machine

namespace Sys2Proof.Proofs

open Sys2Proof Sys2Proof.Machine

/-- Settles O6, by induction on the number of fetches. -/
theorem fetchReadsTheBus : Obligations.FetchReadsTheBus := by
  unfold Obligations.FetchReadsTheBus
  intro s n
  obtain ⟨d, hd⟩ := fetchN_eq s n
  refine ⟨?_, length_fetchBytes s n, fun k hk hdraw => ?_⟩
  · rw [hd]
  · rw [getElem?_fetchBytes hk, fetchByte_fetchN hdraw]

/-- Settles O5: the instruction fetched is the one its bytes decode to. -/
theorem stepRunsDecoded : Obligations.StepRunsDecoded := by
  unfold Obligations.StepRunsDecoded
  intro s i rest hs hw hdec
  obtain ⟨t, ht, -⟩ := exec_effect i ((s.fetchN i.length).readyFor i)
  rw [ht]
  exact step_of_runs (runsInstruction_of_awake hs hw) (by rw [fetchInstr_of_decode hdec]; exact ht)

/-- Settles O7: neither wait runs an instruction, and the phases of a stopped step test the joypad bit, which the timers keep. -/
theorem waitingStep : Obligations.WaitingStep := by
  unfold Obligations.WaitingStep
  intro s
  refine ⟨fun hs hh hp => ?halted, fun hs => ⟨_, step_of_waits (by rw [State.runsInstruction, hs]; rfl), ?stopped⟩⟩
  case halted =>
    have hruns : s.runsInstruction = false := by
      rw [State.runsInstruction, State.anyPending, hs, hh, hp]; rfl
    rw [step_of_waits hruns, State.waitQuantum, hs]
    rfl
  case stopped =>
    have hwait : s.waitQuantum = s.setCycles s.params.stopQuantum := by rw [State.waitQuantum, hs]; rfl
    have hphase := interruptPhase_stopped (s := (s.setCycles s.params.stopQuantum).timerTick s.params.stopQuantum)
      (by rw [timerTick_engine]; exact hs)
    rw [joypadBit_timerTick] at hphase
    have hfinish : (s.setCycles s.params.stopQuantum).finishStep = _ := finishStep_of_no_charge hphase
    rw [hwait]
    refine ⟨rfl, ?_⟩
    rw [hfinish]
    simp [State.advanceClock]
    rfl

/-- Settles O52: EI's step completes the enable, and DI's can only wake the CPU. -/
theorem eiAndDiSteps : Obligations.EiAndDiSteps := by
  unfold Obligations.EiAndDiSteps
  intro s t i rest hs hw hdec hstep
  have hfetch := fetchInstr_of_decode hdec
  have hruns := runsInstruction_of_awake hs hw
  obtain ⟨hcpu, hengine⟩ := readyFor_fetchN_one s i
  have hstopped : ((s.fetchN 1).readyFor i).engine.stopped = false := by rw [hengine]; exact hs
  refine ⟨?ei, ?di⟩
  case ei =>
    rintro rfl
    have ht := (step_of_runs hruns (by rw [hfetch]; exact exec_ei _)).symm.trans hstep
    obtain rfl := Host.Outcome.next.inj ht
    rw [show Instr.ei.length = 1 from rfl, finishStep_enableInterrupts hstopped]
    simp [State.advanceClock, enableInterrupts, hcpu, hengine]
  case di =>
    rintro rfl
    have ht := (step_of_runs hruns (by rw [hfetch]; exact exec_di _)).symm.trans hstep
    obtain rfl := Host.Outcome.next.inj ht
    obtain ⟨h, hfinish⟩ := finishStep_disableInterrupts hstopped
    rw [show Instr.di.length = 1 from rfl, hfinish]
    simp [State.advanceClock, disableInterrupts, hcpu]

end Sys2Proof.Proofs
end

section
/-! No instruction and no phase of a step reads the cycle clock (R27, R471), and every step costs a whole number of M-cycles (R475): what an
instruction does beside the engine is the same from any engine, and what it does to the engine reads no clock. -/

namespace Sys2Proof.Machine

variable {s t : State} {i : Instr} {e : Engine → Engine} {k : Operand8} {a w : Word} {v : Byte} {n m c : Nat}

/-! ## The operations beside a change of the engine -/

theorem noteRead_mapEngine : (s.mapEngine e).noteRead a = (s.noteRead a).mapEngine e := by
  rw [mapEngine_eq_withCore, noteRead_withCore, mapEngine_eq_withCore, State.noteRead_cpu, State.noteRead_engine]

theorem readOperand_mapEngine : (s.mapEngine e).readOperand k = s.readOperand k := by
  cases k with
  | reg r => rfl
  | atHL => exact busRead_mapEngine

theorem noteOperand_mapEngine : (s.mapEngine e).noteOperand k = (s.noteOperand k).mapEngine e := by
  cases k with
  | reg r => rfl
  | atHL => exact noteRead_mapEngine

theorem writeOperand_mapEngine : (s.mapEngine e).writeOperand k v = (s.writeOperand k v).mapEngine e := by
  cases k with
  | reg r => rfl
  | atHL => exact busWrite_mapEngine

theorem pushByte_mapEngine : (s.mapEngine e).pushByte v = (s.pushByte v).mapEngine e :=
  busWrite_mapEngine (s := s.mapCpu fun c => { c with sp := c.sp - 1 })

theorem push16_mapEngine : (s.mapEngine e).push16 w = (s.push16 w).mapEngine e := by
  rw [State.push16, State.push16, pushByte_mapEngine, pushByte_mapEngine]

theorem call_mapEngine : (s.mapEngine e).call w = (s.call w).mapEngine e := by
  rw [State.call, State.call, State.mapEngine_cpu, push16_mapEngine]; rfl

theorem afterPopByte_mapEngine : (s.mapEngine e).afterPopByte = s.afterPopByte.mapEngine e := by
  rw [State.afterPopByte, State.afterPopByte, State.mapEngine_cpu, noteRead_mapEngine]; rfl

theorem pop16_mapEngine : (s.mapEngine e).pop16 = s.pop16 := by
  rw [State.pop16, State.pop16, afterPopByte_mapEngine, State.mapEngine_cpu, State.mapEngine_cpu, busRead_mapEngine, busRead_mapEngine]

theorem afterPop16_mapEngine : (s.mapEngine e).afterPop16 = s.afterPop16.mapEngine e := by
  rw [State.afterPop16, State.afterPop16, afterPopByte_mapEngine, afterPopByte_mapEngine]

theorem ret_mapEngine : (s.mapEngine e).ret = s.ret.mapEngine e := by
  rw [State.ret, State.ret, afterPop16_mapEngine, pop16_mapEngine]; rfl

/-! ## What an instruction does beside the engine -/

/-- A change of the state that neither reads nor changes the engine. -/
def EngineFree (f : State → State) : Prop := ∀ s g, f (s.mapEngine fun _ => g) = (f s).mapEngine fun _ => g

theorem EngineFree.modifyOperand (g : Byte → Bool → MicroOut) (k : Operand8) : EngineFree (modifyOperand g k) := by
  intro s x
  simp only [Machine.modifyOperand, readOperand_mapEngine, noteOperand_mapEngine, writeOperand_mapEngine, State.mapEngine_cpu]
  rfl

theorem EngineFree.aluWith (o : AluOp) (k : Operand8) : EngineFree (aluWith o k) := by
  intro s x
  rw [Machine.aluWith, readOperand_mapEngine, noteOperand_mapEngine]; rfl

theorem EngineFree.testBit (b : Fin 8) (k : Operand8) : EngineFree (testBit b k) := by
  intro s x
  rw [Machine.testBit, readOperand_mapEngine, noteOperand_mapEngine]; rfl

theorem EngineFree.clearBit (b : Fin 8) (k : Operand8) : EngineFree (clearBit b k) := by
  intro s x
  rw [Machine.clearBit, readOperand_mapEngine, noteOperand_mapEngine, writeOperand_mapEngine]; rfl

theorem EngineFree.setBitOf (b : Fin 8) (k : Operand8) : EngineFree (setBitOf b k) := by
  intro s x
  rw [Machine.setBitOf, readOperand_mapEngine, noteOperand_mapEngine, writeOperand_mapEngine]; rfl

theorem EngineFree.cbOperation (v : Byte) : EngineFree (cbOperation v) := by
  intro s x
  unfold Machine.cbOperation
  dsimp only
  split
  · exact modifyOperand ..
  · exact testBit ..
  · exact clearBit ..
  · exact setBitOf ..

/-- A load of a byte from the address `a` to which `g` gives its place. -/
theorem EngineFree.load (a : Cpu → Word) (g : Byte → Cpu → Cpu) :
    EngineFree fun s => (s.noteRead (a s.cpu)).mapCpu (g (s.busRead (a s.cpu))) := by
  intro s x
  simp only [State.mapEngine_cpu, busRead_mapEngine, noteRead_mapEngine]
  rfl

/-- A store of a byte. -/
theorem EngineFree.store (a : Cpu → Word) (v : Cpu → Byte) : EngineFree fun s => s.busWrite (a s.cpu) (v s.cpu) :=
  fun _ _ => busWrite_mapEngine

theorem EngineFree.comp {f h : State → State} (hf : EngineFree f) (hh : EngineFree h) : EngineFree fun s => f (h s) := fun s x =>
  (congrArg f (hh s x)).trans (hf (h s) x)

theorem EngineFree.stepHL (w : Word) : EngineFree (stepHL w) := fun _ _ => rfl

theorem EngineFree.call (w : Word) : EngineFree fun s => s.call w := fun _ _ => call_mapEngine

theorem EngineFree.ret : EngineFree State.ret := fun _ _ => ret_mapEngine

theorem EngineFree.push (p : StackPair) : EngineFree (push p) := fun _ _ => push16_mapEngine

theorem EngineFree.pop (p : StackPair) : EngineFree (pop p) := fun s x => by
  rw [Machine.pop, pop16_mapEngine, afterPop16_mapEngine]; rfl

/-! ## What an instruction does to the engine -/

/-- The engine with another clock. -/
def Engine.setClock (g : Engine) (n m : Nat) : Engine := { g with clockT := n, clockM := m }

/-- A change of the engine that reads and changes no clock, and adds whole M-cycles. -/
structure ClockBlind (e : Engine → Engine) : Prop where
  setClock : ∀ g n m, e (g.setClock n m) = (e g).setClock n m
  cycles   : ∃ n, ∀ g, (e g).cycles = g.cycles + 4 * n

theorem ClockBlind.id : ClockBlind fun g => g := ⟨fun _ _ _ => rfl, 0, fun _ => rfl⟩

/-- The instruction does one and the same beside the engine, and a change that reads no clock to it, from any engine. -/
def ExecClockBlind (i : Instr) : Prop :=
  ∀ s : State, ∃ (t : State) (e : Engine → Engine), ClockBlind e ∧
    ∀ g, exec i (s.mapEngine fun _ => g) = .next (t.mapEngine fun _ => e g)

theorem ExecClockBlind.of_free {f : State → State} (hx : ∀ s, exec i s = .next (f s)) (hf : EngineFree f) : ExecClockBlind i :=
  fun s => ⟨f s, _, .id, fun g => by rw [hx, hf]⟩

/-- A change of the engine after one that is free of it. -/
theorem ExecClockBlind.of_engine {f : State → State} {e : Engine → Engine} (hx : ∀ s, exec i s = .next ((f s).mapEngine e))
    (hf : EngineFree f) (he : ClockBlind e) : ExecClockBlind i :=
  fun s => ⟨f s, e, he, fun g => by rw [hx, hf]; rfl⟩

/-- A conditional instruction, whose taken form adds its surcharge (R177). -/
theorem ExecClockBlind.of_cond {f : State → State} {k : Cond} {n : Nat}
    (hx : ∀ s, exec i s = .next (if s.cpu.cond k then (f s).addCycles (4 * n) else s)) (hf : EngineFree f) : ExecClockBlind i := by
  intro s
  by_cases h : s.cpu.cond k = true
  · refine ⟨f s, fun g => { g with cycles := g.cycles + 4 * n }, ⟨fun _ _ _ => rfl, n, fun _ => rfl⟩, fun g => ?_⟩
    rw [hx, State.mapEngine_cpu, if_pos h, hf]; rfl
  · exact ⟨s, _, .id, fun g => by rw [hx, State.mapEngine_cpu, if_neg h]⟩

/-- STOP changes `stopped`, whichever way it goes (R371). -/
theorem ExecClockBlind.stop (v : Byte) : ExecClockBlind (.stop v) := by
  intro s
  by_cases h : (s.color && s.speed.armed) = true
  · refine ⟨{ s with speed := { doubleSpeed := !s.speed.doubleSpeed, armed := false } }, fun g => { g with stopped := false },
      ⟨fun _ _ _ => rfl, 0, fun _ => rfl⟩, fun g => ?_⟩
    rw [exec_stop, stopCpu]
    exact congrArg Host.Outcome.next (if_pos h)
  · refine ⟨s, fun g => { g with stopped := true }, ⟨fun _ _ _ => rfl, 0, fun _ => rfl⟩, fun g => ?_⟩
    rw [exec_stop, stopCpu]
    exact congrArg Host.Outcome.next (if_neg h)

/-- No instruction reads the clock (R471). -/
theorem exec_clockBlind (i : Instr) : ExecClockBlind i := by
  revert i
  refine Instr.byFamily ?ldReg ?ldImm ?ldFromHL ?ldToHL ?aluReg ?aluHL ?aluImm ?incReg ?decReg ?ldPair ?incPair ?decPair ?addHL ?push
    ?pop ?jpCond ?jrCond ?callCond ?retCond ?rst ?illegal ?rotReg ?rotHL ?bitReg ?bitHL ?resReg ?resHL ?setReg ?setHL
    ?ldAtA16SP ?stop ?jrE8 ?ldAtHLD8 ?jpA16 ?prefixCb ?callA16 ?ldhAtA8A ?addSPE8 ?ldAtA16A ?ldhAAtA8 ?ldHLSPE8 ?ldAAtA16
    ?nop ?ldAtBCA ?rlca ?ldAAtBC ?rrca ?ldAtDEA ?rla ?ldAAtDE ?rra ?ldAtHLIncA ?daa ?ldAAtHLInc ?cpl ?ldAtHLDecA
    ?incAtHL ?decAtHL ?scf ?ldAAtHLDec ?ccf ?halt ?ret ?reti ?ldAtCA ?jpHL ?ldAAtC ?di ?ldSPHL ?ei
  all_goals intros
  -- changes of CPU registers alone
  case ldReg => exact .of_free (fun _ => exec_ldReg ..) fun _ _ => rfl
  case ldImm => exact .of_free (fun _ => exec_ldImm ..) fun _ _ => rfl
  case aluImm => exact .of_free (fun _ => exec_aluImm ..) fun _ _ => rfl
  case ldPair => exact .of_free (fun _ => exec_ldPair ..) fun _ _ => rfl
  case incPair => exact .of_free (fun _ => exec_incPair ..) fun _ _ => rfl
  case decPair => exact .of_free (fun _ => exec_decPair ..) fun _ _ => rfl
  case addHL => exact .of_free (fun _ => exec_addHL ..) fun _ _ => rfl
  case addSPE8 => exact .of_free (fun _ => exec_addSPE8 ..) fun _ _ => rfl
  case ldHLSPE8 => exact .of_free (fun _ => exec_ldHLSPE8 ..) fun _ _ => rfl
  case ldSPHL => exact .of_free exec_ldSPHL fun _ _ => rfl
  case daa => exact .of_free exec_daa fun _ _ => rfl
  case cpl => exact .of_free exec_cpl fun _ _ => rfl
  case scf => exact .of_free exec_scf fun _ _ => rfl
  case ccf => exact .of_free exec_ccf fun _ _ => rfl
  case rlca => exact .of_free exec_rlca fun _ _ => rfl
  case rrca => exact .of_free exec_rrca fun _ _ => rfl
  case rla => exact .of_free exec_rla fun _ _ => rfl
  case rra => exact .of_free exec_rra fun _ _ => rfl
  case jpA16 => exact .of_free (fun _ => exec_jpA16 ..) fun _ _ => rfl
  case jpHL => exact .of_free exec_jpHL fun _ _ => rfl
  case jrE8 => exact .of_free (fun _ => exec_jrE8 ..) fun _ _ => rfl
  case nop => exact .of_free exec_nop fun _ _ => rfl
  case illegal => exact .of_free (fun _ => exec_illegal ..) fun _ _ => rfl
  -- loads and stores of a byte
  case ldFromHL r => exact .of_free (fun _ => exec_ldFromHL ..) (.load Cpu.hl fun v c => c.setReg r v)
  case ldAAtBC => exact .of_free exec_ldAAtBC (.load Cpu.bc fun v c => { c with a := v })
  case ldAAtDE => exact .of_free exec_ldAAtDE (.load Cpu.de fun v c => { c with a := v })
  case ldAAtC => exact .of_free exec_ldAAtC (.load (fun c => ioPage c.c) fun v c => { c with a := v })
  case ldhAAtA8 x => exact .of_free (fun _ => exec_ldhAAtA8 ..) (.load (fun _ => ioPage x) fun v c => { c with a := v })
  case ldAAtA16 x => exact .of_free (fun _ => exec_ldAAtA16 ..) (.load (fun _ => x) fun v c => { c with a := v })
  case ldAAtHLInc => exact .of_free exec_ldAAtHLInc (.comp (.stepHL 1) (.load Cpu.hl fun v c => { c with a := v }))
  case ldAAtHLDec => exact .of_free exec_ldAAtHLDec (.comp (.stepHL (-1)) (.load Cpu.hl fun v c => { c with a := v }))
  case ldToHL r => exact .of_free (fun _ => exec_ldToHL ..) (.store Cpu.hl fun c => c.reg r)
  case ldAtHLD8 x => exact .of_free (fun _ => exec_ldAtHLD8 ..) (.store Cpu.hl fun _ => x)
  case ldAtBCA => exact .of_free exec_ldAtBCA (.store Cpu.bc Cpu.a)
  case ldAtDEA => exact .of_free exec_ldAtDEA (.store Cpu.de Cpu.a)
  case ldAtCA => exact .of_free exec_ldAtCA (.store (fun c => ioPage c.c) Cpu.a)
  case ldhAtA8A x => exact .of_free (fun _ => exec_ldhAtA8A ..) (.store (fun _ => ioPage x) Cpu.a)
  case ldAtA16A x => exact .of_free (fun _ => exec_ldAtA16A ..) (.store (fun _ => x) Cpu.a)
  case ldAtHLIncA => exact .of_free exec_ldAtHLIncA (.comp (.stepHL 1) (.store Cpu.hl Cpu.a))
  case ldAtHLDecA => exact .of_free exec_ldAtHLDecA (.comp (.stepHL (-1)) (.store Cpu.hl Cpu.a))
  case ldAtA16SP x =>
    refine .of_free (fun _ => exec_ldAtA16SP ..) fun s g => ?_
    rw [storeSP, busWrite_mapEngine, busWrite_mapEngine]; rfl
  -- operations on an operand
  case aluReg => exact .of_free (fun _ => exec_aluReg ..) (.aluWith _ _)
  case aluHL => exact .of_free (fun _ => exec_aluHL ..) (.aluWith _ _)
  case incReg => exact .of_free (fun _ => exec_incReg ..) (.modifyOperand _ _)
  case decReg => exact .of_free (fun _ => exec_decReg ..) (.modifyOperand _ _)
  case incAtHL => exact .of_free exec_incAtHL (.modifyOperand _ _)
  case decAtHL => exact .of_free exec_decAtHL (.modifyOperand _ _)
  case rotReg => exact .of_free (fun _ => exec_rotReg ..) (.modifyOperand _ _)
  case rotHL => exact .of_free (fun _ => exec_rotHL ..) (.modifyOperand _ _)
  case bitReg => exact .of_free (fun _ => exec_bitReg ..) (.testBit _ _)
  case bitHL => exact .of_free (fun _ => exec_bitHL ..) (.testBit _ _)
  case resReg => exact .of_free (fun _ => exec_resReg ..) (.clearBit _ _)
  case resHL => exact .of_free (fun _ => exec_resHL ..) (.clearBit _ _)
  case setReg => exact .of_free (fun _ => exec_setReg ..) (.setBitOf _ _)
  case setHL => exact .of_free (fun _ => exec_setHL ..) (.setBitOf _ _)
  case prefixCb x => exact .of_free (fun _ => exec_prefixCb ..) (.cbOperation x)
  -- the stack
  case push p => exact .of_free (fun _ => exec_push ..) (.push p)
  case pop p => exact .of_free (fun _ => exec_pop ..) (.pop p)
  case callA16 x => exact .of_free (fun _ => exec_callA16 ..) (.call x)
  case rst y => exact .of_free (fun _ => exec_rst ..) (.call (BitVec.ofNat 16 (y.val * 8)))
  case ret => exact .of_free exec_ret .ret
  -- the conditional forms
  case jpCond k x => exact .of_cond (n := 1) (fun _ => exec_jpCond ..) (f := fun s => s.setPc x) fun _ _ => rfl
  case jrCond k x => exact .of_cond (n := 1) (fun _ => exec_jrCond ..) (f := jumpRelative x) fun _ _ => rfl
  case callCond k x => exact .of_cond (n := 3) (fun _ => exec_callCond ..) (.call x)
  case retCond k => exact .of_cond (n := 3) (fun _ => exec_retCond ..) .ret
  -- changes of the engine
  case reti => exact .of_engine exec_reti .ret ⟨fun _ _ _ => rfl, 0, fun _ => rfl⟩
  case halt => exact .of_engine (f := fun s => s) exec_halt (fun _ _ => rfl) ⟨fun _ _ _ => rfl, 0, fun _ => rfl⟩
  case di => exact .of_engine (f := fun s => s) exec_di (fun _ _ => rfl) ⟨fun _ _ _ => rfl, 0, fun _ => rfl⟩
  case ei => exact .of_engine (f := fun s => s) exec_ei (fun _ _ => rfl) ⟨fun _ _ _ => rfl, 0, fun _ => rfl⟩
  case stop x => exact .stop x

/-! ## The phases from another clock -/

/-- The state with another clock. -/
def State.setClock (s : State) (n m : Nat) : State := s.mapEngine fun g => g.setClock n m

theorem exec_setClock (h : exec i s = .next t) : exec i (s.setClock n m) = .next (t.setClock n m) := by
  obtain ⟨u, e, he, hu⟩ := exec_clockBlind i s
  obtain rfl := Host.Outcome.next.inj (h.symm.trans (hu s.engine))
  exact (hu _).trans (congrArg (fun g => Host.Outcome.next (u.mapEngine fun _ => g)) (he.setClock s.engine n m))

/-- An instruction adds whole M-cycles to those of its base cost (R475). -/
theorem cycles_exec (h : exec i s = .next t) : ∃ n, t.engine.cycles = s.engine.cycles + 4 * n := by
  obtain ⟨u, e, ⟨-, n, hn⟩, hu⟩ := exec_clockBlind i s
  obtain rfl := Host.Outcome.next.inj (h.symm.trans (hu s.engine))
  exact ⟨n, hn s.engine⟩

theorem timaIncrements_mapEngine : State.timaIncrements n (s.mapEngine e) = (State.timaIncrements n s).mapEngine e := by
  induction n generalizing s with
  | zero => rfl
  | succ n ih =>
    have hone : (s.mapEngine e).timaIncrement = s.timaIncrement.mapEngine e := by
      unfold State.timaIncrement State.ioByte
      rw [State.mapEngine_io]
      split <;> rfl
    rw [State.timaIncrements, State.timaIncrements, hone, ih]

theorem timerTick_mapEngine : (s.mapEngine e).timerTick c = (s.timerTick c).mapEngine e := by
  have hdiv : (s.mapEngine e).divTick c = (s.divTick c).mapEngine e := rfl
  unfold State.timerTick
  rw [hdiv]
  by_cases h : ((s.divTick c).ioByte 0x07).getLsbD 2 = true
  · rw [timaTick_enabled h, timaTick_enabled (s := (s.divTick c).mapEngine e) h]
    exact timaIncrements_mapEngine (s := (s.divTick c).setTimer
      { (s.divTick c).timer with timerAcc := ((s.divTick c).timer.timerAcc + c) % (s.divTick c).timer.threshold.cycles })
  · have hoff := Bool.eq_false_iff.mpr h
    rw [timaTick_disabled hoff, timaTick_disabled (s := (s.divTick c).mapEngine e) hoff]

theorem takeInterrupt_setClock (x : IntSource) : (s.setClock n m).takeInterrupt x = (s.takeInterrupt x).setClock n m := by
  rw [takeInterrupt_eq, takeInterrupt_eq]
  have hio : ∀ v, (s.setClock n m).setIo 0x0F v = (s.setIo 0x0F v).setClock n m := fun _ => rfl
  rw [hio, State.setClock, State.setClock, busWrite_mapEngine, busWrite_mapEngine]
  rfl

theorem interruptPhase_setClock : (s.setClock n m).interruptPhase = (s.interruptPhase.1.setClock n m, s.interruptPhase.2) := by
  have hread : (s.setClock n m).ifByte = s.ifByte ∧ (s.setClock n m).pendingSource = s.pendingSource ∧
      (s.setClock n m).params = s.params := ⟨rfl, rfl, rfl⟩
  have hengine : (s.setClock n m).engine.stopped = s.engine.stopped ∧ (s.setClock n m).engine.imeEnabling = s.engine.imeEnabling ∧
      (s.setClock n m).engine.ime = s.engine.ime ∧ (s.setClock n m).engine.halted = s.engine.halted := ⟨rfl, rfl, rfl, rfl⟩
  obtain ⟨hif, hpending, hparams⟩ := hread
  obtain ⟨hstopped, henabling, hime, hhalted⟩ := hengine
  unfold State.interruptPhase
  rw [hif, hpending, hparams, hstopped, henabling, hime, hhalted]
  split
  · split <;> rfl
  · split
    · rfl
    · split
      · cases s.pendingSource with
        | none => rfl
        | some x =>
          dsimp only
          split
          · rfl
          · rw [takeInterrupt_setClock]
      · rfl

/-- The phases after an instruction add what the step reports to whatever the clock was. -/
theorem finishStep_setClock : (s.setClock n m).finishStep =
    s.finishStep.setClock (n + s.finishStep.engine.cycles) ((n + s.finishStep.engine.cycles) / 4) := by
  have hcycles := (finishStep_keeps s).2.2.2.1
  have htick : ∀ (u : State) c, (u.setClock n m).timerTick c = (u.timerTick c).setClock n m := fun _ _ => timerTick_mapEngine
  have hcyc : (s.setClock n m).engine.cycles = s.engine.cycles := rfl
  rw [hcycles, finishStep_eq, finishStep_eq, hcyc, htick, interruptPhase_setClock]
  dsimp only
  split
  · rw [htick]; rfl
  · rfl

/-! ## The step from another clock -/

/-- The fetch reads no engine. -/
theorem fetchInstr_mapEngine : (s.mapEngine e).fetchInstr = (s.fetchInstr.1, s.fetchInstr.2.mapEngine e) := by
  have hbyte : ∀ u : State, (u.mapEngine e).fetchByte = u.fetchByte := fun _ => busRead_mapEngine
  have hafter : ∀ u : State, (u.mapEngine e).afterFetch = u.afterFetch.mapEngine e := fun u => by
    rw [State.afterFetch, State.afterFetch, State.mapEngine_cpu, noteRead_mapEngine]; rfl
  unfold State.fetchInstr
  simp only [hbyte, hafter]
  cases mainEntry s.fetchByte <;> rfl

/-- A step runs an instruction, or waits for a quantum. -/
theorem step_runs_or_waits (h : step s = .next t) :
    (s.runsInstruction = true ∧ ∃ u, exec s.fetchInstr.1 (s.fetchInstr.2.readyFor s.fetchInstr.1) = .next u ∧ t = u.finishStep) ∨
    (s.runsInstruction = false ∧ t = s.waitQuantum.finishStep) := by
  cases hr : s.runsInstruction with
  | true =>
    obtain ⟨u, hu, -⟩ := exec_effect s.fetchInstr.1 (s.fetchInstr.2.readyFor s.fetchInstr.1)
    exact .inl ⟨rfl, u, hu, Host.Outcome.next.inj (h.symm.trans (step_of_runs hr hu))⟩
  | false => exact .inr ⟨rfl, Host.Outcome.next.inj (h.symm.trans (step_of_waits hr))⟩

/-! ## Whole M-cycles (R475) -/

theorem defaultCycCb_whole : ∀ op2 : Byte, defaultCycCb.getD op2.toNat 0 % 4 = 0 ∧ 4 ≤ defaultCycCb.getD op2.toNat 0 := by
  decide +kernel

theorem mainCycles_whole (echo : EchoMode) : ∀ op : Byte, op ≠ 0xCB →
    mainCycles (defaultParams echo) op % 4 = 0 ∧ 4 ≤ mainCycles (defaultParams echo) op := by
  cases echo <;> decide +kernel

/-- The base cost of a fetched instruction is by its first byte, or by its second after 0xCB (R472). -/
theorem baseCycles_fetched (p : Params) (b0 b1 b2 : Byte) : baseCycles p ((mainEntry b0).instr b1 b2) =
    if b0 = 0xCB then p.cycCb.getD b1.toNat 0 else mainCycles p b0 := by
  have henc := mainEntry_encodesAs b0
  unfold baseCycles
  cases he : mainEntry b0 with
  | op i =>
    rw [he] at henc
    have hne : b0 ≠ 0xCB := fun h => by rw [h, mainEntry_cb] at he; exact Entry.noConfusion he
    rw [if_neg hne, Entry.instr, henc.1]
  | imm8 f =>
    rw [he] at henc
    rw [Entry.instr, (henc b1).1]
  | imm16 f =>
    rw [he] at henc
    have hne : b0 ≠ 0xCB := fun h => by rw [h, mainEntry_cb] at he; exact Entry.noConfusion he
    rw [if_neg hne, Entry.instr, (henc _).1]
  | cb =>
    rw [he] at henc
    rw [Entry.instr, (encode_cbEntry b1).1, if_pos (show b0 = 0xCB from henc)]
    exact if_pos rfl

theorem baseCycles_whole (echo : EchoMode) (s : State) : baseCycles (defaultParams echo) s.fetchInstr.1 % 4 = 0 ∧
    4 ≤ baseCycles (defaultParams echo) s.fetchInstr.1 := by
  rw [fetchInstr_eq, baseCycles_fetched]
  split
  · exact defaultCycCb_whole _
  · next h => exact mainCycles_whole echo _ h

/-- The interrupt phase charges nothing or a dispatch. -/
theorem interruptPhase_charge (s : State) : s.interruptPhase.2 = 0 ∨ s.interruptPhase.2 = s.params.intDispatchCycles := by
  rcases interruptPhase_cases s with ⟨g, -, h⟩ | ⟨x, -, -, -, -, h⟩
  · exact .inl (congrArg Prod.snd h)
  · exact .inr (congrArg Prod.snd h)

/-- Whole M-cycles before the phases are whole M-cycles after them. -/
theorem finishStep_whole {echo : EchoMode} (hp : s.params = defaultParams echo) (h : s.engine.cycles % 4 = 0) (h' : 4 ≤ s.engine.cycles) :
    s.finishStep.engine.cycles % 4 = 0 ∧ 4 ≤ s.finishStep.engine.cycles := by
  have hcharge := interruptPhase_charge (s.timerTick s.engine.cycles)
  rw [timerTick_params, hp, show (defaultParams echo).intDispatchCycles = 20 from rfl] at hcharge
  rw [(finishStep_keeps s).2.2.2.1]
  omega

end Sys2Proof.Machine

namespace Sys2Proof.Proofs

open Sys2Proof Sys2Proof.Machine

/-- Settles O9: the clock by the accounting, and whole M-cycles by the default costs, the surcharges and the charge of a dispatch. -/
theorem stepReportsItsCycles : Obligations.StepReportsItsCycles := by
  unfold Obligations.StepReportsItsCycles
  intro s t h
  obtain ⟨hclockT, hclockM⟩ := step_clock h
  refine ⟨hclockT, hclockM, fun echo hp => ?_⟩
  rcases step_runs_or_waits h with ⟨-, u, hu, rfl⟩ | ⟨-, rfl⟩
  · obtain ⟨n, hn⟩ := cycles_exec hu
    obtain ⟨hrem, hfour⟩ := baseCycles_whole echo s
    have hfetch : s.fetchInstr.2.params = s.params := (Effect.fetchInstr (s := s)).offBus_config.2.2.2.2.1
    have hparams : u.params = defaultParams echo := by
      obtain ⟨u', hu', he⟩ := exec_effect s.fetchInstr.1 (s.fetchInstr.2.readyFor s.fetchInstr.1)
      obtain rfl := Host.Outcome.next.inj (hu.symm.trans hu')
      exact he.offBus_config.2.2.2.2.1.trans (hfetch.trans hp)
    rw [State.readyFor, State.setCycles_engine, hfetch, hp] at hn
    exact finishStep_whole hparams (by rw [hn]; dsimp only; omega) (by rw [hn]; dsimp only; omega)
  · have hquantum : s.waitQuantum.engine.cycles = 4 := by
      rw [State.waitQuantum, hp]; split <;> rfl
    exact finishStep_whole (s := s.waitQuantum) hp (by rw [hquantum]) (by rw [hquantum])

/-- Settles O10: the fetch, the instruction and the phases are the same from any clock. -/
theorem clockIsNotRead : Obligations.ClockIsNotRead := by
  unfold Obligations.ClockIsNotRead
  intro s t n m k h
  have hstart : ({ s with engine := { s.engine with clockT := n, clockM := m, cycles := k } } : State) =
    s.mapEngine fun g => { g with clockT := n, clockM := m, cycles := k } := rfl
  rw [hstart]
  rcases step_runs_or_waits h with ⟨hr, u, hu, rfl⟩ | ⟨hr, rfl⟩
  · have hready : (s.fetchInstr.2.mapEngine fun g => { g with clockT := n, clockM := m, cycles := k }).readyFor s.fetchInstr.1 =
      (s.fetchInstr.2.readyFor s.fetchInstr.1).setClock n m := rfl
    have hrun := step_of_runs (s := s.mapEngine fun g => { g with clockT := n, clockM := m, cycles := k }) (t := u.setClock n m) hr
      (by rw [fetchInstr_mapEngine, hready]; exact exec_setClock hu)
    rw [hrun, finishStep_setClock]
    rfl
  · rw [step_of_waits (s := s.mapEngine fun g => { g with clockT := n, clockM := m, cycles := k }) hr]
    exact congrArg Host.Outcome.next (finishStep_setClock (s := s.waitQuantum))

end Sys2Proof.Proofs
end

section
/-! The register file, the 8-bit loads and the stack (R20, R21, R209, R230 to R267, R355 to R375), and the statements about them. -/

namespace Sys2Proof.Machine

variable {s t : State} {a b w : Word} {v : Byte} {n : Nat}

/-! ## The register file (R20, R21) -/

theorem Cpu.reg_setReg (c : Cpu) (r q : Reg8) (v : Byte) : (c.setReg r v).reg q = if q = r then v else c.reg q := by
  cases r <;> cases q <;> rfl

theorem Cpu.pair_setPair_same (c : Cpu) (p : Pair) (v : Word) : (c.setPair p v).pair p = v := by
  cases p with
  | bc | de | hl => exact join_hi_lo v
  | sp => rfl

theorem Cpu.pair_setPair_ne {p q : Pair} (h : q ≠ p) (c : Cpu) (v : Word) : (c.setPair p v).pair q = c.pair q := by
  match p, q with
  | .bc, .de | .bc, .hl | .bc, .sp | .de, .bc | .de, .hl | .de, .sp | .hl, .bc | .hl, .de | .hl, .sp | .sp, .bc | .sp, .de
  | .sp, .hl => rfl
  | .bc, .bc | .de, .de | .hl, .hl | .sp, .sp => exact absurd rfl h

/-- The mask of AF clears the low nibble of its low byte (R21). -/
theorem join_hi_lo_masked (v : Word) : join (hiByte v) (loByte v &&& 0xF0) = v &&& 0xFFF0 := by
  have hmask : (0xFFF0 : Word) = (0xFF : Byte) ++ (0xF0 : Byte) := rfl
  have hall : hiByte v &&& 0xFF = hiByte v := BitVec.and_allOnes
  conv_rhs => rw [← join_hi_lo v, hmask, join, BitVec.and_append, hall]
  rfl

theorem Cpu.stackPair_setStackPair_same (c : Cpu) (p : StackPair) (v : Word) :
    (c.setStackPair p v).stackPair p = if p = .af then v &&& 0xFFF0 else v := by
  cases p with
  | bc | de | hl => exact join_hi_lo v
  | af => exact join_hi_lo_masked v

theorem Cpu.stackPair_setStackPair_ne {p q : StackPair} (h : q ≠ p) (c : Cpu) (v : Word) :
    (c.setStackPair p v).stackPair q = c.stackPair q := by
  match p, q with
  | .bc, .de | .bc, .hl | .bc, .af | .de, .bc | .de, .hl | .de, .af | .hl, .bc | .hl, .de | .hl, .af | .af, .bc | .af, .de
  | .af, .hl => rfl
  | .bc, .bc | .de, .de | .hl, .hl | .af, .af => exact absurd rfl h

theorem Cpu.setHL_hl (c : Cpu) : c.setHL c.hl = c := by
  rw [Cpu.setHL, Cpu.hl, hiByte_join, loByte_join]

/-! ## Loads of a byte -/

theorem ioPage_eq (n : Byte) : ioPage n = BitVec.ofNat 16 (0xFF00 + n.toNat) := by
  rw [BitVec.ofNat_add]
  exact congrArg _ (BitVec.ofNat_toNat 16 n).symm

theorem sub_one_eq (w : Word) : w - 1 = w + -1 := sub_eq_add_neg w 1

/-- A load of A, which moves HL by `w` after it. -/
theorem stepHL_loadA (w : Word) : stepHL w (loadA a s) =
    { s.noteRead a with cpu := (s.cpu.setHL (s.cpu.hl + w)).setReg .a (s.busRead a) } := by
  rw [stepHL, loadA, State.mapCpu_noteRead]; rfl

theorem loadA_eq : loadA a s = { s.noteRead a with cpu := (s.cpu.setHL s.cpu.hl).setReg .a (s.busRead a) } := by
  rw [loadA, State.mapCpu_noteRead, Cpu.setHL_hl]; rfl

/-- Every load reads one byte at its address, after HL has moved by its form. -/
theorem exec_loadForm (m : LoadForm) (s : State) : exec m.instr s = .next { s.noteRead (m.addr s) with
    cpu := (s.cpu.setHL (m.hlAfter s)).setReg m.dest (s.busRead (m.addr s)) } := by
  cases m with
  | fromHL r =>
    rw [LoadForm.instr, exec_ldFromHL, ldFromHL, State.mapCpu_noteRead, LoadForm.hlAfter, Cpu.setHL_hl]; rfl
  | fromBC => exact (exec_ldAAtBC s).trans (congrArg _ loadA_eq)
  | fromDE => exact (exec_ldAAtDE s).trans (congrArg _ loadA_eq)
  | fromA16 a => exact (exec_ldAAtA16 s a).trans (congrArg _ loadA_eq)
  | fromA8 n => rw [LoadForm.instr, exec_ldhAAtA8, ioPage_eq, loadA_eq]; rfl
  | fromC => rw [LoadForm.instr, exec_ldAAtC, ioPage_eq, loadA_eq]; rfl
  | fromHLInc => exact (exec_ldAAtHLInc s).trans (congrArg _ (stepHL_loadA 1))
  | fromHLDec => rw [LoadForm.hlAfter, sub_one_eq]; exact (exec_ldAAtHLDec s).trans (congrArg _ (stepHL_loadA (-1)))

/-! ## Stores of a byte -/

/-- A bus write, and HL moved by `w` after it. -/
theorem stepHL_busWrite (w : Word) : stepHL w (s.busWrite a v) = { s.busWrite a v with cpu := s.cpu.setHL (s.cpu.hl + w) } := by
  rw [stepHL, State.mapCpu, busWrite_cpu]

theorem busWrite_eq_setHL : s.busWrite a v = { s.busWrite a v with cpu := s.cpu.setHL s.cpu.hl } := by
  rw [Cpu.setHL_hl]
  exact congrArg (fun c => (s.busWrite a v).mapCpu fun _ => c) busWrite_cpu

/-- Every store is one bus write at its address, and HL has moved by its form. -/
theorem exec_storeForm (m : StoreForm) (s : State) : exec m.instr s = .next { s.busWrite (m.addr s) (m.value s) with
    cpu := s.cpu.setHL (m.hlAfter s) } := by
  cases m with
  | toHL r => exact (exec_ldToHL s r).trans (congrArg _ busWrite_eq_setHL)
  | toHLImm v => exact (exec_ldAtHLD8 s v).trans (congrArg _ busWrite_eq_setHL)
  | toBC => exact (exec_ldAtBCA s).trans (congrArg _ busWrite_eq_setHL)
  | toDE => exact (exec_ldAtDEA s).trans (congrArg _ busWrite_eq_setHL)
  | toA16 a => exact (exec_ldAtA16A s a).trans (congrArg _ busWrite_eq_setHL)
  | toA8 n => rw [StoreForm.instr, exec_ldhAtA8A, ioPage_eq]; exact congrArg _ busWrite_eq_setHL
  | toC => rw [StoreForm.instr, exec_ldAtCA, ioPage_eq]; exact congrArg _ busWrite_eq_setHL
  | toHLInc => exact (exec_ldAtHLIncA s).trans (congrArg _ (stepHL_busWrite 1))
  | toHLDec => rw [StoreForm.hlAfter, sub_one_eq]; exact (exec_ldAtHLDecA s).trans (congrArg _ (stepHL_busWrite (-1)))

/-! ## A write of a plain cell keeps the places of the others -/

theorem wramBank_busWrite_plain (ha : s.plainCell a = true) : (s.busWrite a v).wramBank = s.wramBank := by
  rw [busWrite_plain_eq ha]

theorem plainCell_busWrite_plain (ha : s.plainCell a = true) : (s.busWrite a v).plainCell b = s.plainCell b := by
  rw [busWrite_plain_eq ha]; rfl

theorem shows_busWrite_plain (ha : s.plainCell a = true) (b' : Word) : (s.busWrite a v).shows b b' = s.shows b b' := by
  rw [busWrite_plain_eq ha]; rfl

theorem plainIndex_busWrite_plain (ha : s.plainCell a = true) : (s.busWrite a v).plainIndex b = s.plainIndex b := by
  rw [busWrite_plain_eq ha]; rfl

theorem shows_self : s.shows a a = true := shows_iff.mpr (.inl rfl)

/-! ## The stack pointer with an offset (R209) -/

theorem Cpu.setZNHC_addspFlags (c : Cpu) (sp : Word) (e : Byte) : c.setZNHC (addspFlags sp e) = { c with
    f := flagByte false false (decide (sp.toNat % 16 + e.toNat % 16 > 15)) (decide (sp.toNat % 256 + e.toNat > 255)) } := by
  rw [addspFlags_spec]; rfl

/-! ## The stack (R260) -/

/-- A push, with what it leaves of the CPU and the engine written out. -/
theorem push16_eq_setSp (w : Word) : s.push16 w =
    { (s.busWrite (s.cpu.sp - 1) (hiByte w)).busWrite (s.cpu.sp - 2) (loByte w) with cpu := { s.cpu with sp := s.cpu.sp - 2 } } := by
  have hengine : ((s.busWrite (s.cpu.sp - 1) (hiByte w)).busWrite (s.cpu.sp - 2) (loByte w)).engine = s.engine := by
    rw [busWrite_engine, busWrite_engine]
  rw [push16_eq, ← hengine]; rfl

/-- A pop moves SP and the draw counter, and the latter at open ports alone. -/
theorem afterPop16_eq_setSp (s : State) : ∃ n,
    s.afterPop16 = { s with cpu := { s.cpu with sp := s.cpu.sp + 2 }, draws := n } ∧
    (s.isDraw s.cpu.sp = false → s.isDraw (s.cpu.sp + 1) = false → n = s.draws) := by
  refine ⟨((s.noteRead s.cpu.sp).noteRead (s.cpu.sp + 1)).draws, ?_, fun h h' => ?_⟩
  · rw [afterPop16_eq, noteRead_eq (s := s.noteRead s.cpu.sp), noteRead_eq (s := s)]; rfl
  · rw [noteRead_of_not_draw h, noteRead_of_not_draw h']

/-! ## PUSH, then POP -/

/-- The two cells of a stack slot are two, and neither shows the other. -/
theorem shows_slot (s : State) (w : Word) : s.shows (w - 2) (w - 1) = false := by
  have hnext : w - 1 = w - 2 + 1 := by bv_omega
  rw [Bool.eq_false_iff, Ne, shows_iff]
  have hw : (w - 1).toNat = ((w - 2).toNat + 1) % 65536 := by rw [hnext, BitVec.toNat_add]; rfl
  have hlt := (w - 2).isLt
  rintro (heq | ⟨-, -, -, heq⟩)
  · have := congrArg BitVec.toNat heq
    omega
  · omega

theorem plainCell_push16 (h1 : s.plainCell (s.cpu.sp - 1) = true) (h2 : s.plainCell (s.cpu.sp - 2) = true) :
    (s.push16 w).plainCell b = s.plainCell b := by
  have h2' := (plainCell_busWrite_plain (v := hiByte w) h1).trans h2
  rw [push16_eq]
  exact (plainCell_busWrite_plain h2').trans (plainCell_busWrite_plain h1)

section

variable (hm : s.memoryWf = true) (hb : s.wramBank ≠ 0) (h1 : s.plainCell (s.cpu.sp - 1) = true)
  (h2 : s.plainCell (s.cpu.sp - 2) = true)

include hm hb h1 h2

/-- Every read after a push into plain cells. -/
theorem busRead_push16 : (s.push16 w).busRead b = if s.shows (s.cpu.sp - 2) b then loByte w else
    if s.shows (s.cpu.sp - 1) b then hiByte w else s.busRead b := by
  have h2' := (plainCell_busWrite_plain (v := hiByte w) h1).trans h2
  have hm' := memoryWf_busWrite_plain (v := hiByte w) hm h1
  have hb' : (s.busWrite (s.cpu.sp - 1) (hiByte w)).wramBank ≠ 0 := by rw [wramBank_busWrite_plain h1]; exact hb
  rw [push16_eq, busRead_withCore, busRead_busWrite_plain hm' hb' h2', shows_busWrite_plain h1, busRead_busWrite_plain hm hb h1]

omit hb in
/-- Every byte of the arrays after a push into plain cells. -/
theorem ramByte_push16 (r : RamArray) (k : Nat) : (s.push16 w).ramByte r k = if (r, k) = s.plainIndex (s.cpu.sp - 2) then loByte w else
    if (r, k) = s.plainIndex (s.cpu.sp - 1) then hiByte w else s.ramByte r k := by
  have h2' := (plainCell_busWrite_plain (v := hiByte w) h1).trans h2
  have hm' := memoryWf_busWrite_plain (v := hiByte w) hm h1
  rw [push16_eq, ← ramByte_busWrite_plain hm h1, ← plainIndex_busWrite_plain (v := hiByte w) h1, ← ramByte_busWrite_plain hm' h2']
  rfl

/-- What is pushed into plain cells is what a pop then gives, and the pop changes SP alone. -/
theorem pop16_push16 : (s.push16 w).pop16 = w ∧ (s.push16 w).afterPop16 = (s.push16 w).mapCpu fun _ => s.cpu := by
  have hsp : (s.push16 w).cpu = { s.cpu with sp := s.cpu.sp - 2 } := by rw [push16_eq]; rfl
  have hnext : s.cpu.sp - 2 + 1 = s.cpu.sp - 1 := by bv_omega
  have hback : s.cpu.sp - 2 + 2 = s.cpu.sp := by bv_omega
  have hdraw2 : (s.push16 w).isDraw (s.cpu.sp - 2) = false := isDraw_of_plainCell ((plainCell_push16 h1 h2).trans h2)
  have hdraw1 : (s.push16 w).isDraw (s.cpu.sp - 1) = false := isDraw_of_plainCell ((plainCell_push16 h1 h2).trans h1)
  rw [pop16_eq, afterPop16_eq, hsp]
  dsimp only
  rw [hnext, hback, noteRead_of_not_draw hdraw2, noteRead_of_not_draw hdraw1, busRead_push16 hm hb h1 h2, busRead_push16 hm hb h1 h2,
    if_pos shows_self, if_neg (Bool.eq_false_iff.mp (shows_slot s _)), if_pos shows_self, join_hi_lo]
  exact ⟨rfl, rfl⟩

end

end Sys2Proof.Machine

namespace Sys2Proof.Proofs

open Sys2Proof Sys2Proof.Machine

/-- Settles O12: by the registers' cases, and the halves of a pair. -/
theorem registerFile : Obligations.RegisterFile := by
  unfold Obligations.RegisterFile
  refine fun c => ⟨fun r q v => ⟨c.reg_setReg r q v, Cpu.setReg_f v c r, Cpu.setReg_sp v c r, Cpu.setReg_pc v c r⟩,
    fun p q v => ⟨?pair, Cpu.setPair_a v c p, Cpu.setPair_f v c p, Cpu.setPair_pc v c p⟩,
    fun p q v => ⟨?stackPair, Cpu.setStackPair_sp v c p, Cpu.setStackPair_pc v c p⟩⟩
  case pair =>
    split
    · next h => rw [h, Cpu.pair_setPair_same]
    · next h => exact Cpu.pair_setPair_ne h c v
  case stackPair =>
    split
    · next h => rw [h, Cpu.stackPair_setStackPair_same]
    · next h => exact Cpu.stackPair_setStackPair_ne h c v

/-- Settles O13. -/
theorem registerLoads : Obligations.RegisterLoads := by
  unfold Obligations.RegisterLoads
  exact fun s => ⟨exec_ldReg s, fun q v => exec_ldImm s v q, fun p v => exec_ldPair s v p, exec_ldSPHL s⟩

/-- Settles O14: a load is one read, and a read moves the draw counter alone. -/
theorem memoryLoads : Obligations.MemoryLoads := by
  unfold Obligations.MemoryLoads
  intro m s
  refine ⟨(s.noteRead (m.addr s)).draws, ?_, fun h => by rw [noteRead_of_not_draw h]⟩
  rw [exec_loadForm, noteRead_eq]
  rfl

/-- Settles O15. -/
theorem memoryStores : Obligations.MemoryStores := by
  unfold Obligations.MemoryStores
  exact ⟨exec_storeForm, fun a s => exec_ldAtA16SP s a⟩

/-- Settles O16: a store is one bus write, and that of a plain cell changes the four arrays alone. -/
theorem storeFrame : Obligations.StoreFrame := by
  unfold Obligations.StoreFrame
  intro m s t hm hb ha h
  obtain rfl := Host.Outcome.next.inj ((exec_storeForm m s).symm.trans h)
  refine ⟨fun b => ?read, ramByte_busWrite_plain hm ha, rfl, rfl, rfl, rfl, ?rest⟩
  case read => exact (busRead_mapCpu (f := fun _ => s.cpu.setHL (m.hlAfter s))).trans (busRead_busWrite_plain hm hb ha)
  case rest =>
    rw [busWrite_plain_eq ha]
    exact ⟨rfl, rfl, rfl, rfl, rfl, rfl, rfl, rfl, rfl, rfl, rfl, rfl, rfl, rfl, rfl, rfl⟩

/-- Settles O17. -/
theorem stackPointerOffset : Obligations.StackPointerOffset := by
  unfold Obligations.StackPointerOffset
  intro e s
  refine ⟨addspValue s.cpu.sp e, _, ?add, ?load, addspValue_spec e s.cpu.sp, flagsAre_flagByte ..⟩
  case add => rw [exec_addSPE8, addSP, State.mapCpu, Cpu.setZNHC_addspFlags]
  case load =>
    rw [exec_ldHLSPE8, ldHLFromSP, State.mapCpu, Cpu.setZNHC_addspFlags]
    rfl

/-- Settles O18: by the stack's two operations, pair by pair. -/
theorem pushAndPop : Obligations.PushAndPop := by
  unfold Obligations.PushAndPop
  intro s p
  obtain ⟨n, hpop, hn⟩ := afterPop16_eq_setSp s
  refine ⟨fun hi lo h => ?push, n, ?pop, hn⟩
  case push =>
    rw [exec_push, push, push16_eq_setSp]
    cases p <;> obtain ⟨rfl, rfl⟩ := h <;> simp [Cpu.stackPair, Cpu.bc, Cpu.de, Cpu.hl, Cpu.af]
  case pop =>
    dsimp only
    rw [exec_pop, pop, hpop, pop16_eq]
    cases p <;> simp [State.mapCpu, Cpu.setStackPair, Cpu.setHL, Cpu.setF]

/-- Settles O19: the pop gives what was pushed, from the state that the push left. -/
theorem pushThenPop : Obligations.PushThenPop := by
  unfold Obligations.PushThenPop
  intro s t u p q hm hb h1 h2 ht hu
  obtain rfl := Host.Outcome.next.inj ((exec_push s p).symm.trans ht)
  obtain rfl := Host.Outcome.next.inj ((exec_pop _ q).symm.trans hu)
  obtain ⟨hpop, hafter⟩ := pop16_push16 hm hb h1 h2 (w := s.cpu.stackPair p)
  rw [pop, push, hpop, hafter]
  refine ⟨rfl, fun b hb1 hb2 => ?read, fun r k hk1 hk2 => ?byte⟩
  case read =>
    rw [busRead_mapCpu, busRead_mapCpu, busRead_push16 hm hb h1 h2, if_neg (Bool.eq_false_iff.mp hb2), if_neg (Bool.eq_false_iff.mp hb1)]
  case byte => exact (ramByte_push16 hm h1 h2 r k).trans ((if_neg hk2).trans (if_neg hk1))

/-- Settles O34: a call is a push of PC. -/
theorem callsAndRestarts : Obligations.CallsAndRestarts := by
  unfold Obligations.CallsAndRestarts
  intro s a
  have hcall : ∀ w, s.call w = { (s.busWrite (s.cpu.sp - 1) (hiByte s.cpu.pc)).busWrite (s.cpu.sp - 2) (loByte s.cpu.pc) with
      cpu := { s.cpu with sp := s.cpu.sp - 2, pc := w } } := fun w => by rw [State.call, push16_eq_setSp]; rfl
  refine ⟨(exec_callA16 s a).trans (congrArg _ (hcall a)), fun k => ?cond, fun y => ?rst⟩
  case cond =>
    rw [exec_callCond, callIf, hcall]
    simp [State.addCycles, State.mapEngine]
    rfl
  case rst => rw [exec_rst, restart, hcall, Nat.mul_comm]; rfl

/-- Settles O35: a return is a pop into PC. -/
theorem returns : Obligations.Returns := by
  unfold Obligations.Returns
  intro s
  obtain ⟨n, hpop, hn⟩ := afterPop16_eq_setSp s
  have hret : s.ret = { s with
      cpu := { s.cpu with sp := s.cpu.sp + 2, pc := (s.noteRead s.cpu.sp).busRead (s.cpu.sp + 1) ++ s.busRead s.cpu.sp },
      draws := n } := by
    rw [State.ret, hpop, pop16_eq]; rfl
  refine ⟨n, ⟨(exec_ret s).trans (congrArg _ hret), fun k => ?cond, ?reti⟩, hn⟩
  case cond => rw [exec_retCond, returnIf, hret]; rfl
  case reti => rw [exec_reti, State.returnFromInterrupt, hret]; rfl

/-- Settles O36. -/
theorem systemInstructions : Obligations.SystemInstructions := by
  unfold Obligations.SystemInstructions
  intro s
  refine ⟨exec_nop s, exec_illegal s, exec_halt s, exec_di s, exec_ei s, fun v => ⟨fun hc ha => ?armed, fun h => ?unarmed⟩⟩
  case armed =>
    have hcond : (s.color && s.speed.armed) = true := Bool.and_eq_true_iff.mpr ⟨hc, ha⟩
    rw [exec_stop, stopCpu, hcond]; rfl
  case unarmed =>
    have hcond : (s.color && s.speed.armed) = false := Bool.and_eq_false_iff.mpr h
    rw [exec_stop, stopCpu, hcond]; rfl

end Sys2Proof.Proofs
end

section
/-! The micro-operations that modify an operand or the accumulator (R202, R206 to R224, R304 to R345) in the instructions that run them, and
the statements about them. -/

namespace Sys2Proof.Machine

variable {s t : State} {v f : Byte} {z n h c : Bool}

/-! ## The four flags of a byte -/

/-- The four flags of F fix its bits. -/
theorem FlagsAre.bits (hf : FlagsAre f z n h c) :
    f.getLsbD 7 = z ∧ f.getLsbD 6 = n ∧ f.getLsbD 5 = h ∧ f.getLsbD 4 = c := by
  have heq : f = flagByte z n h c := BitVec.eq_of_toNat_eq (hf.trans (flagsAre_flagByte z n h c).symm)
  rw [heq]
  exact getLsbD_flagByte z n h c

/-- The flags a micro-operation writes depend on the CPU by F alone. -/
theorem Cpu.setZNHC_of_f {c c' : Cpu} (h : c'.f = c.f) (fl : FlagSet) : c'.setZNHC fl = { c' with f := (c.setZNHC fl).f } := by
  unfold Cpu.setZNHC Cpu.flagZ Cpu.flagN Cpu.flagH Cpu.flagC
  rw [h]

theorem Cpu.writeA_eq (c : Cpu) (m : MicroOut) : c.writeA m = { c with a := m.value, f := (c.setZNHC m.flags).f } := rfl

/-! ## SUB, SBC and CP (R202, R206) -/

/-- An operation with the flags of `sub8` and the borrow-in `cin`, of which CP keeps no result. -/
theorem exec_sub8 {o : AluOp} {src : AluSource} {cin : Bool} (ho : aluOp o s.cpu.a (src.value s) s.cpu.flagC =
      { value := if o = .cp then s.cpu.a else (sub8 s.cpu.a (src.value s) cin).value, flags := (sub8 s.cpu.a (src.value s) cin).flags }) :
    ∃ r f : Byte,
      exec (src.instr o) s = .next { src.after s with cpu := { s.cpu with a := if o = .cp then s.cpu.a else r, f := f } } ∧
      (r.toNat : Int) = ((s.cpu.a.toNat : Int) - (src.value s).toNat - cin.toNat) % 256 ∧
      FlagsAre f (decide (r = 0)) true (decide (s.cpu.a.toNat % 16 < (src.value s).toNat % 16 + cin.toNat))
        (decide (s.cpu.a.toNat < (src.value s).toNat + cin.toNat)) := by
  obtain ⟨hvalue, hflags⟩ := sub8_spec s.cpu.a (src.value s) cin
  exact ⟨_, _, exec_aluSource_of_flags ho hflags, hvalue, flagsAre_flagByte ..⟩

/-! ## Operations that modify an operand (R222) -/

theorem f_writeOperand (k : Operand8) (r : Byte) : ((s.noteOperand k).writeOperand k r).cpu.f = s.cpu.f := by
  cases k with
  | reg x => exact Cpu.setReg_f r s.cpu x
  | atHL => exact congrArg Cpu.f (busWrite_cpu.trans (State.noteRead_cpu ..))

/-- A modification writes its result to the operand, then F. -/
theorem modifyOperand_eq (g : Byte → Bool → MicroOut) (k : Operand8) : modifyOperand g k s =
    ((s.noteOperand k).writeOperand k (g (s.readOperand k) s.cpu.flagC).value).mapCpu fun c =>
      { c with f := (s.cpu.setZNHC (g (s.readOperand k) s.cpu.flagC).flags).f } := by
  exact congrArg (fun c => State.mapCpu ((s.noteOperand k).writeOperand k (g (s.readOperand k) s.cpu.flagC).value) fun _ => c)
    (Cpu.setZNHC_of_f (f_writeOperand k _) _)

theorem writeOperand_eq (k : Operand8) (r : Byte) : (s.noteOperand k).writeOperand k r =
    ((s.noteOperand k).writeOperand k r).mapCpu fun c => { c with f := s.cpu.f } := by
  rw [← f_writeOperand k r]; rfl

theorem exec_inc (k : Operand8) (s : State) : exec (ModifyOp.inc.instr k) s = .next (incOperand k s) := by
  cases k with
  | reg r => exact exec_incReg s r
  | atHL => exact exec_incAtHL s

theorem exec_dec (k : Operand8) (s : State) : exec (ModifyOp.dec.instr k) s = .next (decOperand k s) := by
  cases k with
  | reg r => exact exec_decReg s r
  | atHL => exact exec_decAtHL s

/-- Every modification, of a register or of the byte at HL: one read, one write of its result, then F. -/
theorem exec_modify (m : ModifyOp) (k : Operand8) (s : State) : ∃ r f : Byte,
    exec (m.instr k) s = .next (((s.noteOperand k).writeOperand k r).mapCpu fun c => { c with f := f }) ∧
    ModifySpec (s.readOperand k) s.cpu.f r f m := by
  cases m with
  | inc =>
    obtain ⟨hvalue, hflags⟩ := inc8_spec (s.readOperand k)
    refine ⟨_, _, (exec_inc k s).trans (congrArg _ (modifyOperand_eq ..)), hvalue, ?_⟩
    rw [hflags]; exact flagsAre_flagByte ..
  | dec =>
    obtain ⟨hvalue, hflags⟩ := dec8_spec (s.readOperand k)
    refine ⟨_, _, (exec_dec k s).trans (congrArg _ (modifyOperand_eq ..)), hvalue, ?_⟩
    rw [hflags]; exact flagsAre_flagByte ..
  | rot o =>
    obtain ⟨co, hrot, hflags⟩ := rotOp_spec (s.readOperand k) s.cpu.flagC o
    refine ⟨_, _, (exec_rot o k s).trans (congrArg _ (modifyOperand_eq ..)), co, hrot, ?_⟩
    rw [hflags]; exact flagsAre_flagByte ..
  | res b => exact ⟨_, _, (exec_res b k s).trans (congrArg _ (writeOperand_eq ..)), resBit_spec _ b, rfl⟩
  | set b => exact ⟨_, _, (exec_set b k s).trans (congrArg _ (writeOperand_eq ..)), setBit_spec _ b, rfl⟩

/-- The same on the byte at HL, with what it leaves of the CPU written out. -/
theorem exec_modify_atHL (m : ModifyOp) (s : State) : ∃ r f : Byte,
    exec (m.instr .atHL) s = .next { (s.noteRead s.cpu.hl).busWrite s.cpu.hl r with cpu := { s.cpu with f := f } } ∧
    ModifySpec (s.busRead s.cpu.hl) s.cpu.f r f m := by
  obtain ⟨r, f, hexec, hspec⟩ := exec_modify m .atHL s
  refine ⟨r, f, hexec.trans (congrArg _ ?_), hspec⟩
  have hcpu : ((s.noteRead s.cpu.hl).busWrite s.cpu.hl r).cpu = s.cpu := busWrite_cpu.trans (State.noteRead_cpu ..)
  rw [State.noteOperand, State.writeOperand, State.noteRead_cpu, State.mapCpu, hcpu]

/-! ## Decimal digits -/

/-- A sum of two-digit numbers, `e` the sum of the tens and `d` that of the ones: what DAA adds gives its digits. -/
theorem bcd_digits_add : ∀ e < 19, ∀ d < 20,
    (decide (16 * e + d > 255) || decide ((16 * e + d) % 256 > 0x99)) = decide (100 ≤ 10 * e + d) ∧
    (decide (d > 15) || decide ((16 * e + d) % 256 % 16 > 9)) = decide (10 ≤ d) ∧
    ((16 * e + d) % 256 + 0x60 * (decide (100 ≤ 10 * e + d)).toNat + 6 * (decide (10 ≤ d)).toNat) % 256 =
      (10 * e + d) % 100 / 10 * 16 + (10 * e + d) % 10 := by
  decide +kernel

/-- A difference of two-digit numbers, `e` that of the tens plus 9 and `d` that of the ones plus 10: what DAA subtracts gives its
digits. -/
theorem bcd_digits_sub : ∀ e < (19 : Nat), ∀ d < (20 : Nat),
    decide (16 * e + d < 154) = decide (10 * e + d < 100) ∧
    ((((16 * e + d : Nat) : Int) - 154) % 256 - 0x60 * (decide (10 * e + d < 100)).toNat - 6 * (decide (d < 10)).toNat) % 256 =
      (((10 * e + d) % 100 / 10 * 16 + (10 * e + d) % 10 : Nat) : Int) := by
  decide +kernel

/-- Two numbers in decimal digits, and a carry or borrow, by the tens and the ones. -/
theorem bcd_parts_add {x y a w : Nat} (c : Nat) (ha : a = x / 10 * 16 + x % 10) (hw : w = y / 10 * 16 + y % 10) :
    a + w + c = 16 * (x / 10 + y / 10) + (x % 10 + y % 10 + c) ∧ a % 16 + w % 16 + c = x % 10 + y % 10 + c ∧
    10 * (x / 10 + y / 10) + (x % 10 + y % 10 + c) = x + y + c := by
  have hx : (x / 10 * 16 + x % 10) % 16 = x % 10 := by rw [Nat.mul_add_mod_self_right, Nat.mod_eq_of_lt (by omega)]
  have hy : (y / 10 * 16 + y % 10) % 16 = y % 10 := by rw [Nat.mul_add_mod_self_right, Nat.mod_eq_of_lt (by omega)]
  exact ⟨by omega, by rw [ha, hw, hx, hy], by omega⟩

theorem bcd_parts_sub {x y a w c : Nat} (hx : x < 100) (hy : y < 100) (hc : c ≤ 1) (ha : a = x / 10 * 16 + x % 10)
    (hw : w = y / 10 * 16 + y % 10) : ∃ e < 19, ∃ d < 20,
    (a : Int) - w - c = ((16 * e + d : Nat) : Int) - 154 ∧ (a < w + c ↔ 16 * e + d < 154) ∧ (a % 16 < w % 16 + c ↔ d < 10) ∧
    x + 100 - y - c = 10 * e + d := by
  have hx' : (x / 10 * 16 + x % 10) % 16 = x % 10 := by rw [Nat.mul_add_mod_self_right, Nat.mod_eq_of_lt (by omega)]
  have hy' : (y / 10 * 16 + y % 10) % 16 = y % 10 := by rw [Nat.mul_add_mod_self_right, Nat.mod_eq_of_lt (by omega)]
  refine ⟨x / 10 + 9 - y / 10, by omega, x % 10 + 10 - y % 10 - c, by omega, ?_, ?_, ?_, ?_⟩
  · omega
  · omega
  · rw [ha, hw, hx', hy']; omega
  · omega

/-- What DAA makes of A, by the N flag. -/
theorem exec_daa_eq (s : State) : ∃ r f : Byte, exec .daa s = .next { s with cpu := { s.cpu with a := r, f := f } } ∧
    (s.cpu.flagN = false →
      (r.toNat = (s.cpu.a.toNat + 0x60 * (s.cpu.flagC || decide (s.cpu.a.toNat > 0x99)).toNat +
        6 * (s.cpu.flagH || decide (s.cpu.a.toNat % 16 > 9)).toNat) % 256) ∧
      FlagsAre f (decide (r = 0)) false false (s.cpu.flagC || decide (s.cpu.a.toNat > 0x99))) ∧
    (s.cpu.flagN = true →
      (r.toNat : Int) = ((s.cpu.a.toNat : Int) - 0x60 * s.cpu.flagC.toNat - 6 * s.cpu.flagH.toNat) % 256 ∧
      FlagsAre f (decide (r = 0)) true false s.cpu.flagC) := by
  obtain ⟨hflags, hvalue⟩ := daa_spec s.cpu.a s.cpu.flagN s.cpu.flagH s.cpu.flagC
  have hexec : exec .daa s = .next { s with cpu := { s.cpu with
      a := (daa s.cpu.a s.cpu.flagN s.cpu.flagH s.cpu.flagC).value
      f := flagByte (decide ((daa s.cpu.a s.cpu.flagN s.cpu.flagH s.cpu.flagC).value = 0)) s.cpu.flagN false
        (if s.cpu.flagN then s.cpu.flagC else s.cpu.flagC || decide (s.cpu.a.toNat > 0x99)) } } := by
    rw [exec_daa, decimalAdjust, State.mapCpu, Cpu.writeA_eq, hflags]; rfl
  refine ⟨_, _, hexec, fun hn => ?add, fun hn => ?sub⟩
  case add =>
    rw [hn, if_neg Bool.false_ne_true] at hvalue ⊢
    exact ⟨by exact_mod_cast hvalue, flagsAre_flagByte ..⟩
  case sub =>
    rw [hn, if_pos rfl] at hvalue ⊢
    exact ⟨hvalue, flagsAre_flagByte ..⟩

end Sys2Proof.Machine

namespace Sys2Proof.Proofs

open Sys2Proof Sys2Proof.Machine

/-- Settles O21: SUB and CP are `sub8` with borrow-in 0, and SBC with the C flag. -/
theorem subSbcAndCp : Obligations.SubSbcAndCp := by
  unfold Obligations.SubSbcAndCp
  intro src s oc hoc
  simp only [List.mem_cons, List.not_mem_nil, or_false] at hoc
  obtain rfl | rfl | rfl := hoc
  · exact exec_sub8 (cin := false) rfl
  · exact exec_sub8 (cin := s.cpu.flagC) rfl
  · exact exec_sub8 (cin := false) rfl

/-- Settles O24. -/
theorem modifyRegister : Obligations.ModifyRegister := by
  unfold Obligations.ModifyRegister
  exact fun m x s => exec_modify m (.reg x) s

/-- Settles O25. -/
theorem modifyMemory : Obligations.ModifyMemory := by
  unfold Obligations.ModifyMemory
  exact exec_modify_atHL

/-- Settles O26: the read of a plain cell notes no draw, and its write changes the four arrays alone. -/
theorem modifyMemoryFrame : Obligations.ModifyMemoryFrame := by
  unfold Obligations.ModifyMemoryFrame
  intro m s t hm hb ha h
  obtain ⟨r, f, hexec, hspec⟩ := exec_modify_atHL m s
  rw [noteRead_of_not_draw (isDraw_of_plainCell ha)] at hexec
  obtain rfl := Host.Outcome.next.inj (hexec.symm.trans h)
  refine ⟨⟨r, hspec, fun b => ?read, ramByte_busWrite_plain hm ha⟩, rfl, ?rest⟩
  case read => exact (busRead_mapCpu (f := fun _ => { s.cpu with f := f })).trans (busRead_busWrite_plain hm hb ha)
  case rest =>
    rw [busWrite_plain_eq ha]
    exact ⟨rfl, rfl, rfl, rfl, rfl, rfl, rfl, rfl, rfl, rfl, rfl, rfl, rfl, rfl, rfl, rfl⟩

/-- Settles O23: the flags of the sum, the sum after the difference, and the carry that DEC keeps. -/
theorem sourceAluProperties : Obligations.SourceAluProperties := by
  unfold Obligations.SourceAluProperties
  have hadd : ∀ (v : Byte) (s : State), _ := fun v s => exec_add8 (s := s) (o := .add) (src := .imm v) (cin := false) rfl
  refine ⟨fun v s t ht => ?flags, fun v s t u ht hu => ?roundTrip, fun r s t ht => ?carry⟩
  case flags =>
    obtain ⟨a, f, hexec, -, hflags⟩ := hadd v s
    obtain rfl := Host.Outcome.next.inj (hexec.symm.trans ht)
    obtain ⟨hz, -, hh, hc⟩ := hflags.bits
    exact ⟨(Bool.eq_iff_iff.mp hz).trans decide_eq_true_iff, (Bool.eq_iff_iff.mp hc).trans decide_eq_true_iff,
      (Bool.eq_iff_iff.mp hh).trans decide_eq_true_iff⟩
  case roundTrip =>
    obtain ⟨r, f, hsub, hr, -⟩ := exec_sub8 (s := s) (o := .sub) (src := .imm v) (cin := false) rfl
    obtain rfl := Host.Outcome.next.inj (hsub.symm.trans ht)
    obtain ⟨a, f', hexec, ha, -⟩ := hadd v { s with cpu := { s.cpu with a := r, f := f } }
    obtain rfl := Host.Outcome.next.inj (hexec.symm.trans hu)
    apply BitVec.eq_of_toNat_eq
    have hs := s.cpu.a.isLt
    have hv := v.isLt
    simp only [AluSource.value, Bool.toNat_false] at hr ha
    dsimp only
    omega
  case carry =>
    obtain ⟨x, f, hexec, -, hflags⟩ := exec_modify .dec (.reg r) s
    obtain rfl := Host.Outcome.next.inj (hexec.symm.trans ht)
    exact hflags.bits.2.2.2

/-- Settles O27: DAA by its two branches, and the three that keep Z. -/
theorem accumulatorOperations : Obligations.AccumulatorOperations := by
  unfold Obligations.AccumulatorOperations
  intro s
  obtain ⟨r, f, hdaa⟩ := exec_daa_eq s
  exact ⟨r, f, _, _, _, _, hdaa, ⟨exec_cpl s, (congrArg BitVec.toNat BitVec.xor_allOnes).trans BitVec.toNat_not, flagsAre_flagByte ..⟩,
    ⟨exec_scf s, flagsAre_flagByte ..⟩, exec_ccf s, flagsAre_flagByte ..⟩

/-- Settles O28: the sum and the difference by their digits. -/
theorem decimalArithmetic : Obligations.DecimalArithmetic := by
  unfold Obligations.DecimalArithmetic
  intro x y s t u hx hy ha hu
  have hw : (BitVec.ofNat 8 (y / 10 * 16 + y % 10)).toNat = y / 10 * 16 + y % 10 := by
    rw [BitVec.toNat_ofNat, Nat.mod_eq_of_lt (by omega)]
  generalize BitVec.ofNat 8 (y / 10 * 16 + y % 10) = w at hw ⊢
  have hc := s.cpu.flagC.toNat_le
  obtain ⟨r, f, hdaa, hadd, hsub⟩ := exec_daa_eq t
  obtain rfl := Host.Outcome.next.inj (hdaa.symm.trans hu)
  refine ⟨fun ht => ?sum, fun ht => ?difference⟩
  case sum =>
    obtain ⟨hup, hlow, hdigits⟩ := bcd_digits_add (x / 10 + y / 10) (by omega) (x % 10 + y % 10 + s.cpu.flagC.toNat) (by omega)
    obtain ⟨hsum, hones, hz⟩ := bcd_parts_add s.cpu.flagC.toNat ha hw
    obtain ⟨a, f', hexec, hvalue, hflags⟩ := exec_add8 (s := s) (o := .adc) (cin := s.cpu.flagC) (src := .imm w) rfl
    generalize s.cpu.flagC.toNat = c at *
    simp only [AluSource.value, hsum, hones] at hvalue hflags
    obtain ⟨-, hn, hh, hcarry⟩ := hflags.bits
    obtain rfl := Host.Outcome.next.inj (hexec.symm.trans ht)
    obtain ⟨hr, hf⟩ := hadd hn
    simp only [Cpu.flagC, Cpu.flagH, hh, hcarry, hvalue, hup, hlow, hdigits] at hr hf
    rw [← hz]
    exact ⟨hr, hf.bits.2.2.2⟩
  case difference =>
    obtain ⟨e, he, d, hd, hdiff, hborrow, hones, hz⟩ := bcd_parts_sub hx hy hc ha hw
    obtain ⟨hup, hdigits⟩ := bcd_digits_sub e he d hd
    obtain ⟨a, f', hexec, hvalue, hflags⟩ := exec_sub8 (s := s) (o := .sbc) (cin := s.cpu.flagC) (src := .imm w) rfl
    generalize s.cpu.flagC.toNat = c at *
    simp only [AluSource.value, hdiff, hborrow, hones] at hvalue hflags
    obtain ⟨-, hn, hh, hcarry⟩ := hflags.bits
    obtain rfl := Host.Outcome.next.inj (hexec.symm.trans ht)
    obtain ⟨hr, hf⟩ := hsub hn
    simp only [reduceCtorEq, if_false, Cpu.flagC, Cpu.flagH, hh, hcarry, hvalue, hup, hdigits] at hr hf
    rw [hz]
    exact ⟨Int.ofNat_inj.mp hr, hf.bits.2.2.2⟩

/-- Settles O29: an accumulator rotate is the CB form on A, but for Z. -/
theorem accumulatorRotates : Obligations.AccumulatorRotates := by
  unfold Obligations.AccumulatorRotates
  intro s io hio
  have hexec : ∀ io ∈ [(Instr.rlca, RotOp.rlc), (.rla, .rl), (.rrca, .rrc), (.rra, .rr)], exec io.1 s = .next (accRotate io.2 s) := by
    simp
  obtain ⟨co, hspec, hflags⟩ := rotOp_spec s.cpu.a s.cpu.flagC io.2
  refine ⟨_, _, co, hexec io hio, hspec, ?_⟩
  dsimp only
  cases s.params.accRotZ with
  | fromResult => rw [accRotFlags, hflags]; exact flagsAre_flagByte ..
  | clear => rw [accRotFlags, hflags]; exact flagsAre_flagByte ..

end Sys2Proof.Proofs
end

section
/-! What reads of the transforming ports give (R81 to R89), the two copies (R97, R102, R103), MBC1 (R116 to R121) and save data (R132), with
the statements about them. -/

namespace Sys2Proof.Machine

variable {s : State} {a : Word} {v : Byte} {k n o : Nat}

/-! ## Bytes as numbers -/

theorem toNat_join (hi lo : Byte) : (join hi lo).toNat = hi.toNat * 256 + lo.toNat := by
  rw [join, BitVec.toNat_append, shiftLeft_8_or _ lo.isLt]

theorem toNat_low (v : Byte) (n : Nat) : (v.extractLsb' 0 n).toNat = v.toNat % 2 ^ n := by
  rw [BitVec.extractLsb'_toNat, Nat.shiftRight_zero]

theorem getLsbD_seven : ∀ v : Byte, v.getLsbD 7 = decide (128 ≤ v.toNat) := by
  decide +kernel

theorem toNat_and_F0 : ∀ v : Byte, (v &&& 0xF0).toNat = v.toNat / 16 * 16 := by
  decide +kernel

theorem toNat_and_7F_eq (v : Byte) : (v &&& 0x7F).toNat = v.toNat % 128 := by
  rw [BitVec.toNat_and]; exact Nat.and_two_pow_sub_one_eq_mod v.toNat 7

theorem toNat_and_1F (v : Byte) : (v &&& 0x1F).toNat = v.toNat % 32 := by
  rw [BitVec.toNat_and]; exact Nat.and_two_pow_sub_one_eq_mod v.toNat 5

/-- A pair masked half by half. -/
theorem join_and (hi lo x y : Byte) : join hi lo &&& (x ++ y : Word) = join (hi &&& x) (lo &&& y) := BitVec.and_append

/-! ## The ports whose read transforms what is stored -/

/-- The pressed lines of the groups that JOYP selects (R82). -/
def joypLines (stored buttons : Byte) : Byte :=
  let dirs : Byte := if stored.getLsbD 4 then 0 else buttons &&& 0x0F
  let acts : Byte := if stored.getLsbD 5 then 0 else (buttons >>> 4) &&& 0x0F
  dirs ||| acts

theorem joypByte_eq (stored buttons : Byte) :
    joypByte stored buttons = 0xC0 ||| (stored &&& 0x30) ||| (~~~joypLines stored buttons &&& 0x0F) := by
  have h4 : (stored &&& 0x30).getLsbD 4 = stored.getLsbD 4 := BitVec.getLsbD_and.trans (Bool.and_true _)
  have h5 : (stored &&& 0x30).getLsbD 5 = stored.getLsbD 5 := BitVec.getLsbD_and.trans (Bool.and_true _)
  unfold joypByte joypLines
  dsimp only
  rw [h4, h5]

theorem getLsbD_joypLines (stored buttons : Byte) (h : k < 4) : (joypLines stored buttons).getLsbD k =
    ((!stored.getLsbD 4 && buttons.getLsbD k) || (!stored.getLsbD 5 && buttons.getLsbD (k + 4))) := by
  have hmask : ∀ k < 4, (0x0F : Byte).getLsbD k = true := by decide
  have hdirs : (buttons &&& 0x0F).getLsbD k = buttons.getLsbD k := by rw [BitVec.getLsbD_and, hmask k h, Bool.and_true]
  have hacts : (buttons >>> 4 &&& 0x0F).getLsbD k = buttons.getLsbD (k + 4) := by
    rw [BitVec.getLsbD_and, hmask k h, Bool.and_true, BitVec.getLsbD_ushiftRight, Nat.add_comm]
  unfold joypLines
  have hzero : (0 : Byte).getLsbD k = false := BitVec.getLsbD_zero
  dsimp only
  rw [BitVec.getLsbD_or, apply_ite (BitVec.getLsbD · k), apply_ite (BitVec.getLsbD · k), hzero, hdirs, hacts]
  cases stored.getLsbD 4 <;> cases stored.getLsbD 5 <;> rfl

theorem ioRead_joyp (h : ioPort s.color k = .joyp) : s.ioRead k = joypByte (s.ioByte k) s.buttons := by
  unfold State.ioRead; rw [h]

theorem ioRead_intFlag (h : ioPort s.color k = .intFlag) : s.ioRead k = s.ioByte k ||| 0xE0 := by
  unfold State.ioRead; rw [h]

/-- KEY1's byte as a number (R85). -/
theorem toNat_key1 : ∀ x y : Bool, ((if x then 0x80 else 0x00) ||| 0x7E ||| (if y then 0x01 else 0x00) : Byte).toNat =
    128 * x.toNat + 0x7E + y.toNat := by
  decide

theorem toNat_vbk : ∀ b : BitVec 1, (0xFE ||| b.zeroExtend 8 : Byte).toNat = 0xFE + b.toNat := by
  decide

theorem toNat_svbk : ∀ b : BitVec 3, (0xF8 ||| b.zeroExtend 8 : Byte).toNat = 0xF8 + b.toNat := by
  decide

/-! ## The OAM DMA (R97) -/

theorem ioWrite_dma (h : ioPort s.color k = .dma) : s.ioWrite k v = s.writeDma v := by
  unfold State.ioWrite; rw [h]

/-- The source of the DMA, `i` bytes on, does not wrap. -/
theorem toNat_dmaSource (v : Byte) (h : n < 0xA0) : (join v 0 + BitVec.ofNat 16 n).toNat = v.toNat * 256 + n := by
  have hv := v.isLt
  rw [BitVec.toNat_add, toNat_join, BitVec.toNat_ofNat, show (0 : Byte).toNat = 0 from rfl]
  omega

/-! ## The HDMA (R102, R103) -/

theorem ioWrite_hdma5 (h : ioPort s.color k = .hdma5) : s.ioWrite k v = s.writeHdma5 v := by
  unfold State.ioWrite; rw [h]

theorem busWrite_hdma5 (hc : s.color = true) : s.busWrite 0xFF55 v = s.writeHdma5 v :=
  (busWrite_port (k := 0x55) (by decide) rfl).trans (ioWrite_hdma5 (by rw [hc]; rfl))

theorem toNat_hdmaSource (s : State) :
    s.hdmaSource.toNat = (s.ioByte 0x51).toNat * 256 + (s.ioByte 0x52).toNat / 16 * 16 := by
  have hmask : (0xFFF0 : Word) = (0xFF : Byte) ++ (0xF0 : Byte) := rfl
  have hall : s.ioByte 0x51 &&& 0xFF = s.ioByte 0x51 := BitVec.and_allOnes
  rw [State.hdmaSource, hmask, join_and, hall, toNat_join, toNat_and_F0]

theorem hdmaDestOffset_eq (s : State) :
    s.hdmaDestOffset = (s.ioByte 0x53).toNat % 32 * 256 + (s.ioByte 0x54).toNat / 16 * 16 := by
  have hmask : (0x1FF0 : Word) = (0x1F : Byte) ++ (0xF0 : Byte) := rfl
  rw [State.hdmaDestOffset, hmask, join_and, toNat_join, toNat_and_1F, toNat_and_F0]

theorem writeHdma5_arm (h : 128 ≤ v.toNat) : s.writeHdma5 v = { s.setIo 0x55 (v &&& 0x7F) with
    hdma := { len := v.toNat - 128 + 1, active := true, src := s.hdmaSource, dst := BitVec.ofNat 16 (0x8000 + s.hdmaDestOffset) } } := by
  have h7 : v.getLsbD 7 = true := by rw [getLsbD_seven, decide_eq_true h]
  have hlen : (v &&& 0x7F).toNat = v.toNat - 128 := by rw [toNat_and_7F_eq]; have := v.isLt; omega
  unfold State.writeHdma5
  rw [h7, hlen, Bool.not_true, Bool.and_false, if_neg Bool.false_ne_true, if_neg Bool.false_ne_true]

theorem writeHdma5_cancel (h : v.toNat < 128) (ha : s.hdma.active = true) : s.writeHdma5 v =
    { s.setIo 0x55 (s.ioByte 0x55 ||| 0x80) with hdma := { s.hdma with active := false } } := by
  have h7 : v.getLsbD 7 = false := by rw [getLsbD_seven, decide_eq_false (by omega)]
  unfold State.writeHdma5
  rw [h7, ha]
  rfl

theorem writeHdma5_copy (h : v.toNat < 128) (ha : s.hdma.active = false) : s.writeHdma5 v =
    (State.hdmaCopy s.hdmaSource s.hdmaDestOffset ((v.toNat + 1) * 16) 0 s).setIo 0x55 0xFF := by
  have h7 : v.getLsbD 7 = false := by rw [getLsbD_seven, decide_eq_false (by omega)]
  have hlen : (v &&& 0x7F).toNat = v.toNat := by rw [toNat_and_7F_eq, Nat.mod_eq_of_lt h]
  unfold State.writeHdma5
  rw [h7, ha, hlen]
  rfl

theorem hblankTick_active (ha : s.hdma.active = true) : s.hblankTick =
    { (State.hdmaCopy s.hdma.src (s.hdma.dst.toNat - 0x8000) 16 0 s).setIo 0x55
        (if s.hdma.len - 1 = 0 then 0xFF else BitVec.ofNat 8 (s.hdma.len - 1 - 1)) with
      hdma := { len := s.hdma.len - 1, active := decide (s.hdma.len - 1 ≠ 0), src := s.hdma.src + 16,
                dst := BitVec.ofNat 16 (0x8000 + (s.hdma.dst.toNat - 0x8000 + 16) % 0x2000) } } := by
  unfold State.hblankTick; rw [if_pos ha]

/-- The next destination, inside the video window. -/
theorem nextDst_eq {dst : Word} (hlow : 0x8000 ≤ dst.toNat) (hhigh : dst.toNat ≤ 0x9FF0) :
    BitVec.ofNat 16 (0x8000 + (dst.toNat - 0x8000 + 16) % 0x2000) = if dst = 0x9FF0 then 0x8000 else dst + 16 := by
  split
  · next h => rw [h]; rfl
  · next h =>
    have hne : dst.toNat ≠ 0x9FF0 := fun h' => h (BitVec.eq_of_toNat_eq h')
    apply BitVec.eq_of_toNat_eq
    rw [BitVec.toNat_ofNat, BitVec.toNat_add, show (16 : Word).toNat = 16 from rfl]
    omega

/-- What the copy of `n` bytes leaves in VRAM, from a source outside VRAM and the open ports. -/
theorem vram_hdmaCopy {src : Word} {doff : Nat} (hm : Memory.wf ramFill 0x4000 s.vram = true) (hn : n ≤ 0x2000)
    (hsrc : ∀ j < n, s.isDraw (src + BitVec.ofNat 16 j) = false ∧
      ((src + BitVec.ofNat 16 j).toNat < 0x8000 ∨ 0x9FFF < (src + BitVec.ofNat 16 j).toNat)) :
    (State.hdmaCopy src doff n 0 s).draws = s.draws ∧
    (∀ j < n, (State.hdmaCopy src doff n 0 s).vram.get ramFill (s.vramBank.toNat * 0x2000 + (doff + j) % 0x2000) =
      s.busRead (src + BitVec.ofNat 16 j)) ∧
    ∀ o, (∀ j < n, o ≠ s.vramBank.toNat * 0x2000 + (doff + j) % 0x2000) →
      (State.hdmaCopy src doff n 0 s).vram.get ramFill o = s.vram.get ramFill o := by
  obtain ⟨vram, d, hcopy, hspec⟩ := hdmaCopy_spec src doff n 0 hm (by omega)
  obtain ⟨hd, hin, hout⟩ := hspec fun j _ hj => hsrc j (by omega)
  rw [hcopy]
  exact ⟨hd, fun j hj => hin j (Nat.zero_le j) (by omega), fun o ho => hout o fun j _ hj => ho j (by omega)⟩

/-- A canonical state's VRAM is canonical. -/
theorem vram_wf_of_memoryWf (h : s.memoryWf = true) : Memory.wf ramFill 0x4000 s.vram = true := by
  unfold State.memoryWf at h
  simp only [Bool.and_eq_true] at h
  exact h.1.1.1.1.1

/-! ## MBC1 (R116 to R121) -/

section
variable {r : Mbc1}

theorem Mbc1.write_latch (h : n ≤ 0x1FFF) : r.write n v = { r with ramEnabled := decide (v.toNat % 16 = 10) } := by
  rw [Mbc1.write, if_pos h, enablePattern_eq]

theorem Mbc1.write_bankLo (h : 0x2000 ≤ n) (h' : n ≤ 0x3FFF) : r.write n v = { r with bankLo := v.extractLsb' 0 5 } := by
  rw [Mbc1.write, if_neg (by omega), if_pos h']

theorem Mbc1.write_bankHi (h : 0x4000 ≤ n) (h' : n ≤ 0x5FFF) : r.write n v = { r with bankHi := v.extractLsb' 0 2 } := by
  rw [Mbc1.write, if_neg (by omega), if_neg (by omega), if_pos h']

theorem Mbc1.write_mode (h : 0x6000 ≤ n) : r.write n v = { r with mode := v.extractLsb' 0 1 } := by
  rw [Mbc1.write, if_neg (by omega), if_neg (by omega), if_neg (by omega)]

theorem cartRam_mbc1_off (hc : s.cart = .mbc1 r) (hoff : r.ramEnabled = false) :
    s.cartReadRam o = 0xFF ∧ s.cartWriteRam o v = s := by
  rw [State.cartReadRam, State.cartWriteRam, hc]
  simp only [hoff, Bool.false_eq_true, if_false, and_self]

theorem cartRam_mbc1_on (hc : s.cart = .mbc1 r) (hon : r.ramEnabled = true) :
    s.cartReadRam o = s.eramByte (r.ramBank * 0x2000 + o) ∧ s.cartWriteRam o v = s.eramWrite (r.ramBank * 0x2000 + o) v := by
  rw [State.cartReadRam, State.cartWriteRam, hc]
  simp only [hon, if_true, and_self]

end

/-- The MBC1 registers after one write of each of the four ranges. -/
def Mbc1.ofWrites (en lo hi md : Byte) : Mbc1 :=
  { ramEnabled := decide (en.toNat % 16 = 10), bankLo := lo.extractLsb' 0 5, bankHi := hi.extractLsb' 0 2, mode := md.extractLsb' 0 1 }

/-- A mode bit as a number. -/
theorem mode_eq_iff (md : Byte) (b : BitVec 1) : md.extractLsb' 0 1 = b ↔ md.toNat % 2 = b.toNat := by
  rw [← BitVec.toNat_inj, toNat_low, pow_one]

theorem Mbc1.bank_ofWrites (en lo hi md : Byte) : (Mbc1.ofWrites en lo hi md).bank =
    (let raw := if md.toNat % 2 = 0 then hi.toNat % 4 * 32 + lo.toNat % 32 else lo.toNat % 32
     if raw % 32 = 0 then raw + 1 else raw) := by
  unfold Mbc1.bank Mbc1.ofWrites
  simp only [mode_eq_iff, toNat_low]
  rfl

theorem Mbc1.ramBank_ofWrites (en lo hi md : Byte) : (Mbc1.ofWrites en lo hi md).ramBank =
    if md.toNat % 2 = 1 then hi.toNat % 4 else 0 := by
  unfold Mbc1.ramBank Mbc1.ofWrites
  simp only [mode_eq_iff, toNat_low]
  rfl

theorem busWrite_rom_mbc1 {r q : Mbc1} (h : a.toNat ≤ 0x7FFF) (hc : s.cart = .mbc1 r) (hw : r.write a.toNat v = q) :
    s.busWrite a v = { s with cart := .mbc1 q } :=
  busWrite_rom_of_writeRom h hc (congrArg Cart.mbc1 hw)

/-- The four control writes change the controller's registers alone. -/
theorem busWrite_mbc1 {r : Mbc1} {p0 p1 p2 p3 : Word} (en lo hi md : Byte) (hc : s.cart = .mbc1 r) (h0 : p0.toNat ≤ 0x1FFF)
    (h1 : 0x2000 ≤ p1.toNat) (h1' : p1.toNat ≤ 0x3FFF) (h2 : 0x4000 ≤ p2.toNat) (h2' : p2.toNat ≤ 0x5FFF)
    (h3 : 0x6000 ≤ p3.toNat) (h3' : p3.toNat ≤ 0x7FFF) :
    (((s.busWrite p0 en).busWrite p1 lo).busWrite p2 hi).busWrite p3 md = { s with cart := .mbc1 (.ofWrites en lo hi md) } := by
  rw [busWrite_rom_mbc1 (by omega) hc (Mbc1.write_latch h0), busWrite_rom_mbc1 (by omega) rfl (Mbc1.write_bankLo h1 h1'),
    busWrite_rom_mbc1 (by omega) rfl (Mbc1.write_bankHi h2 h2'), busWrite_rom_mbc1 h3' rfl (Mbc1.write_mode h3)]
  rfl

end Sys2Proof.Machine

namespace Sys2Proof.Proofs

open Sys2Proof Sys2Proof.Machine

/-- Settles O38: the draw counter by the law of a read, and each port by the port at its offset. -/
theorem portReads : Obligations.PortReads := by
  unfold Obligations.PortReads
  intro s
  refine ⟨fun a => ⟨noteRead_eq, isDraw_iff s a⟩, ⟨joypLines (s.ioByte 0) s.buttons, ?joyp, fun k hk => getLsbD_joypLines _ _ hk⟩,
    (busRead_port (k := 0x0F) (by decide) rfl).trans (ioRead_intFlag rfl), fun hc => ⟨?key1, ?vbk, ?svbk⟩⟩
  case joyp => exact (busRead_port (k := 0x00) (by decide) rfl).trans ((ioRead_joyp rfl).trans (joypByte_eq ..))
  case key1 =>
    rw [busRead_port (a := 0xFF4D) (k := 0x4D) (by decide) rfl, ioRead_key1 (by rw [hc]; rfl)]
    exact toNat_key1 ..
  case vbk =>
    rw [busRead_port (a := 0xFF4F) (k := 0x4F) (by decide) rfl, ioRead_vbk (by rw [hc]; rfl)]
    exact toNat_vbk _
  case svbk =>
    rw [busRead_port (a := 0xFF70) (k := 0x70) (by decide) rfl, ioRead_svbk (by rw [hc]; rfl)]
    exact toNat_svbk _

/-- Settles O41: the copy's frame, and its bytes, none of which the copy itself overwrites before it reads them. -/
theorem oamDma : Obligations.OamDma := by
  unfold Obligations.OamDma
  intro s v
  have hwrite : s.busWrite 0xFF46 v = State.oamCopy (join v 0) 0xA0 0 (s.setIo 0x46 v) :=
    (busWrite_port (k := 0x46) (by decide) rfl).trans (ioWrite_dma rfl)
  refine ⟨_, _, hwrite.trans (oamCopy_eq ..), fun i hi hm hdraw => ?_⟩
  have hwf : Memory.wf ramFill 0xA0 s.oam = true := by
    unfold State.memoryWf at hm
    simp only [Bool.and_eq_true] at hm
    exact hm.1.1.1.2
  obtain ⟨oam, d, hcopy, -, hbyte⟩ := oamCopy_spec (s := s.setIo 0x46 v) (join v 0) 0xA0 0 hwf (by decide)
  have hsrc : (v ++ 0#8 : Word) = join v 0 := rfl
  rw [hcopy]
  rw [hsrc] at hdraw ⊢
  refine hbyte i (Nat.zero_le i) (by omega) ((isDraw_congr (s := s) (t := s.setIo 0x46 v) rfl).trans hdraw) ?_
  rw [toNat_dmaSource v hi]
  omega

/-- Settles O42, by the three cases of the write. -/
theorem hdmaTrigger : Obligations.HdmaTrigger := by
  unfold Obligations.HdmaTrigger
  intro s v hc
  rw [busWrite_hdma5 hc]
  refine ⟨fun h => ⟨s.hdmaSource, BitVec.ofNat 16 (0x8000 + s.hdmaDestOffset), toNat_hdmaSource s, ?dst, writeHdma5_arm h⟩,
    writeHdma5_cancel, fun h ha => ⟨(State.hdmaCopy s.hdmaSource s.hdmaDestOffset ((v.toNat + 1) * 16) 0 s).vram,
      (State.hdmaCopy s.hdmaSource s.hdmaDestOffset ((v.toNat + 1) * 16) 0 s).draws, ?frame, ?copy⟩⟩
  case dst =>
    have hle := (hdmaDestOffset_spec (s := s)).1
    rw [BitVec.toNat_ofNat, Nat.mod_eq_of_lt (by omega), hdmaDestOffset_eq, Nat.add_assoc]
  case frame => exact (writeHdma5_copy h ha).trans (congrArg (fun t : State => t.setIo 0x55 0xFF) (hdmaCopy_eq ..))
  case copy =>
    intro src doff hm hsrc hdoff hout
    rw [← toNat_hdmaSource] at hsrc
    rw [← hdmaDestOffset_eq] at hdoff
    subst hdoff
    have haddr : ∀ j, BitVec.ofNat 16 (src + j) = s.hdmaSource + BitVec.ofNat 16 j := fun j => by
      rw [hsrc, BitVec.ofNat_add, BitVec.ofNat_toNat, BitVec.setWidth_eq]
    have hmod : ∀ j, (src + j) % 65536 = (s.hdmaSource + BitVec.ofNat 16 j).toNat := fun j => by
      rw [← haddr]; exact (BitVec.toNat_ofNat (src + j) 16).symm
    simp only [haddr, hmod] at hout ⊢
    exact (vram_hdmaCopy (vram_wf_of_memoryWf hm) (by omega) hout).2

/-- Settles O43: one block of the copy, from a legal state, in which the destination does not wrap inside the block. -/
theorem hblankTick : Obligations.HblankTick := by
  unfold Obligations.HblankTick
  intro s
  refine ⟨fun ha => by rw [State.hblankTick, ha]; rfl, fun ha hl => ?_⟩
  obtain ⟨-, -, -, hbus⟩ := legal_iff.mp hl
  obtain ⟨-, hlen, -⟩ := hbus.hdmaLeft ha
  have hlow := hbus.hdmaLow
  have hhigh := hbus.hdmaHigh
  have halign : s.hdma.dst.toNat % 16 = 0 := by
    have h := congrArg BitVec.toNat hbus.hdmaDst
    rw [BitVec.toNat_and] at h
    exact (Nat.and_two_pow_sub_one_eq_mod _ 4).symm.trans h
  refine ⟨(State.hdmaCopy s.hdma.src (s.hdma.dst.toNat - 0x8000) 16 0 s).vram,
    (State.hdmaCopy s.hdma.src (s.hdma.dst.toNat - 0x8000) 16 0 s).draws, ?frame, fun hsrc => ?bytes⟩
  case frame =>
    have hlast : s.hdma.len - 1 = 0 ↔ s.hdma.len = 1 := by omega
    have hmore : s.hdma.len - 1 ≠ 0 ↔ s.hdma.len ≠ 1 := not_congr hlast
    rw [hblankTick_active ha, nextDst_eq hlow (by omega), Nat.sub_sub]
    simp only [hlast, hmore]
    exact congrArg (fun t : State => { t.setIo 0x55 (if s.hdma.len = 1 then 0xFF else BitVec.ofNat 8 (s.hdma.len - 2)) with
      hdma := { len := s.hdma.len - 1, active := decide (s.hdma.len ≠ 1), src := s.hdma.src + 16,
                dst := if s.hdma.dst = 0x9FF0 then 0x8000 else s.hdma.dst + 16 } }) (hdmaCopy_eq ..)
  case bytes =>
    obtain ⟨hd, hin, hout⟩ := vram_hdmaCopy (doff := s.hdma.dst.toNat - 0x8000) hbus.vram (by decide) hsrc
    refine ⟨hd, fun o => ?_⟩
    split
    · next h =>
      obtain ⟨h1, h2⟩ := h
      have hplace : s.vramBank.toNat * 0x2000 +
          (s.hdma.dst.toNat - 0x8000 + (o - s.vramBank.toNat * 0x2000 - (s.hdma.dst.toNat - 0x8000))) % 0x2000 = o := by omega
      rw [← hin (o - s.vramBank.toNat * 0x2000 - (s.hdma.dst.toNat - 0x8000)) (by omega), hplace]
    · next h => exact hout o fun j hj => by omega

/-- Settles O45: the registers after the four writes, and each window by them. -/
theorem mbc1Banking : Obligations.Mbc1Banking := by
  unfold Obligations.Mbc1Banking
  rintro s t r a p0 p1 p2 p3 en lo hi md v hc h0 h1 h1' h2 h2' h3 h3' rfl
  rw [busWrite_mbc1 en lo hi md hc h0 h1 h1' h2 h2' h3 h3']
  refine ⟨⟨_, rfl⟩, fun ha => busRead_rom_low ha, fun ha ha' => ?bank, fun ha ha' => ?ram⟩
  case bank =>
    rw [busRead_rom_high ha ha']
    exact congrArg (fun b => s.romByte (b * 0x4000 + (a.toNat - 0x4000))) (Mbc1.bank_ofWrites en lo hi md)
  case ram =>
    rw [busRead_eram ha ha', busWrite_eram ha ha']
    by_cases hen : en.toNat % 16 = 10
    · obtain ⟨hread, hwrite⟩ := cartRam_mbc1_on (s := { s with cart := .mbc1 (.ofWrites en lo hi md) })
        (o := a.toNat - 0xA000) (v := v) rfl (decide_eq_true hen)
      rw [hread, hwrite, if_pos hen, if_pos hen, Mbc1.ramBank_ofWrites]
      exact ⟨rfl, rfl⟩
    · rw [if_neg hen, if_neg hen]
      exact cartRam_mbc1_off rfl (decide_eq_false hen)

/-- Settles O49, by the laws of byte strings in an array. -/
theorem saveRoundTrip : Obligations.SaveRoundTrip := by
  unfold Obligations.SaveRoundTrip
  intro s blob hm
  have hwf : Memory.wf ramFill s.eramSize s.eram = true := by
    unfold State.memoryWf at hm
    simp only [Bool.and_eq_true] at hm
    exact hm.2
  refine ⟨?_, Memory.length_toBytes, _, rfl, fun i hi => ?_⟩
  · rw [State.loadSaveData, State.getSaveData, Memory.setBytes_toBytes hwf]
  · rw [Memory.get_setBytes blob hwf, if_pos ⟨Nat.zero_le i, hi⟩, Nat.sub_zero]

end Sys2Proof.Proofs
end
